-- ==== Sys2Proof/Word.lean ====
section
/-! DEFINITION. The word types of the block (10_state.md R21, 30_encoding.md R80). Every quantity is
unsigned and every register arithmetic is modular in the register's width (00_scope.md R11). -/

namespace Sys2Proof

/-- A byte: an operand field, a queue element, a wire byte. -/
abbrev Byte := BitVec 8

/-- An operation word (R80). -/
abbrev OpWord := BitVec 32

/-- A port's operand or result (R21). -/
abbrev Data := BitVec 64

end Sys2Proof
end

