-- ==== Sys2Proof/Config.lean ====
section
/-! DEFINITION. The implementation parameters of 00_scope.md R5. They are arguments of the model: the
state carries them (Machine/State.lean, field cfg), no step changes them, and a statement about every
state is a statement about every legal choice of them (log 1). -/

namespace Sys2Proof

/-- TSVAR, the timestamp mechanism (R2, R5). -/
inductive TsVar where
  /-- the narrow counter extended by a software tally -/
  | narrow
  /-- two chained counters that form one wide counter -/
  | chained
deriving DecidableEq, Repr

/-- The parameters of R5. -/
structure Params where
  /-- `N`, the queue capacity in bytes -/
  n : Nat
  /-- `TSVAR` -/
  tsvar : TsVar
  /-- `W`, the width of the narrow counter -/
  w : Nat
deriving DecidableEq, Repr

/-- The values every vector of 95_test_vectors.md takes unless it says otherwise: N = 1024,
TSVAR = NARROW, W = 16. DESIGN CHOICE (log 1): unsafe for a claim about `State.reset` alone, which
then speaks of one legal choice. -/
def Params.ofVectors : Params := ⟨1024, .narrow, 16⟩

/-- The bytes of RXBUF: the frame length byte is 8 bits, so the buffer is fixed at 255 bytes (R5, R60). -/
def rxbufSize : Nat := 255

end Sys2Proof
end

