-- ==== Sys2Proof/Syntax.lean ====
section
/-! DEFINITION. The operations, one constructor per row of the operation map (30_encoding.md R86). An
operand is a field of the word as R83 assembles it: unsigned, never extended, scaled or shifted. -/

namespace Sys2Proof

/-- The five formats of R82. -/
inductive Format where
  /-- no operand: A, B and Z are zero -/
  | n
  /-- one byte in A -/
  | a
  /-- two bytes in A and B -/
  | ab
  /-- one bit in A[0] -/
  | bit
  /-- the 64-bit operand DIN of the issuing port; A, B and Z are zero -/
  | d
deriving DecidableEq, Repr

/-- An operation. -/
inductive Instr where
  /-- C.NOP (R120) -/
  | cNop
  /-- C.STATUS (R121) -/
  | cStatus
  /-- C.INFO (R122) -/
  | cInfo
  /-- RX.BYTE b: one inbound byte (R131) -/
  | rxByte (b : Byte)
  /-- RX.STAT (R132) -/
  | rxStat
  /-- RX.CMD (R133) -/
  | rxCmd
  /-- RX.LEN (R134) -/
  | rxLen
  /-- RX.DATA i: payload index (R135) -/
  | rxData (i : Byte)
  /-- RX.ACK (R136) -/
  | rxAck
  /-- TX.CMD c, n: command byte and payload length (R151) -/
  | txCmd (c n : Byte)
  /-- TX.DATA n: payload length (R152) -/
  | txData (n : Byte)
  /-- TX.ERR code, k: status code and extra length (R153) -/
  | txErr (code k : Byte)
  /-- TX.BYTE b: payload byte (R154) -/
  | txByte (b : Byte)
  /-- TX.END (R155) -/
  | txEnd
  /-- TX.DRAIN (R156) -/
  | txDrain
  /-- TX.FLUSH (R157) -/
  | txFlush
  /-- Q.PUSH b (R183) -/
  | qPush (b : Byte)
  /-- Q.PUSH16 (R184) -/
  | qPush16
  /-- Q.PUSH32 (R185) -/
  | qPush32
  /-- Q.PUSH64 (R186) -/
  | qPush64
  /-- Q.POP (R187) -/
  | qPop
  /-- Q.SPACE (R189) -/
  | qSpace
  /-- Q.AVAIL (R190) -/
  | qAvail
  /-- Q.CLEAR (R191) -/
  | qClear
  /-- Q.PUSHBIT: the A field, of which the format leaves only bit 0 free (R82, R192) -/
  | qPushBit (a : Byte)
  /-- Q.FLUSHBITS (R193) -/
  | qFlushBits
  /-- Q.RBEGIN (R194) -/
  | qRBegin
  /-- Q.REND (R195) -/
  | qREnd
  /-- Q.SETDLEN n: record length (R196) -/
  | qSetDLen (n : Byte)
  /-- T.START (R222) -/
  | tStart
  /-- T.NOW (R223 with TSVAR = CHAINED, R224 with NARROW) -/
  | tNow
  /-- T.OVFSVC (R227) -/
  | tOvfSvc
deriving DecidableEq, Repr

end Sys2Proof
end

