-- ==== Sys2Proof/WellFormed.lean ====
section
/-! DEFINITION. The checks on operations and parameters. -/

namespace Sys2Proof

/-- Every operand fits the fields its format leaves free (30_encoding.md R82). A byte operand always
fits; the A field of Q.PUSHBIT (format BIT) must have A[7:1] = 0. -/
def Instr.wellFormed : Instr → Bool
  | .cNop | .cStatus | .cInfo => true
  | .rxByte _ | .rxStat | .rxCmd | .rxLen | .rxData _ | .rxAck => true
  | .txCmd _ _ | .txData _ | .txErr _ _ | .txByte _ | .txEnd | .txDrain | .txFlush => true
  | .qPush _ | .qPush16 | .qPush32 | .qPush64 | .qPop | .qSpace | .qAvail | .qClear => true
  | .qPushBit a => a.extractLsb' 1 7 == 0#7
  | .qFlushBits | .qRBegin | .qREnd | .qSetDLen _ => true
  | .tStart | .tNow | .tOvfSvc => true

/-- The legal values of 00_scope.md R5: 1024 ≤ N ≤ 32768 and 1 ≤ W ≤ 63. -/
abbrev Params.Legal (c : Params) : Prop :=
  1024 ≤ c.n ∧ c.n ≤ 32768 ∧ 1 ≤ c.w ∧ c.w ≤ 63

end Sys2Proof
end

