-- ==== Sys2Proof/Decode.lean ====
section
/-! DEFINITION. The operation word (30_encoding.md section 1): its fields, the decoder, total on every
word and refusing by name, and the encoder. A word has no byte order: it is presented whole on a port
(R80, 20_memory.md R69; log 17). -/

namespace Sys2Proof

/-- UNIT, bits 31..28 (R80). -/
def unitOf (w : OpWord) : BitVec 4 := w.extractLsb' 28 4

/-- FN, bits 27..24 (R80). -/
def fnOf (w : OpWord) : BitVec 4 := w.extractLsb' 24 4

/-- A, bits 23..16 (R80). -/
def fieldA (w : OpWord) : Byte := w.extractLsb' 16 8

/-- B, bits 15..8 (R80). -/
def fieldB (w : OpWord) : Byte := w.extractLsb' 8 8

/-- Z, bits 7..0, reserved (R80). -/
def fieldZ (w : OpWord) : Byte := w.extractLsb' 0 8

/-- The word with the given fields (R80). -/
def packWord (u f : BitVec 4) (a b z : Byte) : OpWord := u ++ f ++ a ++ b ++ z

/-- One row of the operation map (R86). -/
structure OpRow where
  unit : BitVec 4
  fn : BitVec 4
  format : Format
  /-- the operation the row names, from the A and B fields -/
  make : Byte → Byte → Instr

/-- The operation map (R86). -/
def opMap : List OpRow := [
  ⟨0, 0, .n, fun _ _ => .cNop⟩,
  ⟨0, 1, .n, fun _ _ => .cStatus⟩,
  ⟨0, 2, .n, fun _ _ => .cInfo⟩,
  ⟨1, 0, .a, fun a _ => .rxByte a⟩,
  ⟨1, 1, .n, fun _ _ => .rxStat⟩,
  ⟨1, 2, .n, fun _ _ => .rxCmd⟩,
  ⟨1, 3, .n, fun _ _ => .rxLen⟩,
  ⟨1, 4, .a, fun a _ => .rxData a⟩,
  ⟨1, 5, .n, fun _ _ => .rxAck⟩,
  ⟨2, 0, .ab, fun a b => .txCmd a b⟩,
  ⟨2, 1, .a, fun a _ => .txData a⟩,
  ⟨2, 2, .ab, fun a b => .txErr a b⟩,
  ⟨2, 3, .a, fun a _ => .txByte a⟩,
  ⟨2, 4, .n, fun _ _ => .txEnd⟩,
  ⟨2, 5, .n, fun _ _ => .txDrain⟩,
  ⟨2, 6, .n, fun _ _ => .txFlush⟩,
  ⟨3, 0, .a, fun a _ => .qPush a⟩,
  ⟨3, 1, .d, fun _ _ => .qPush16⟩,
  ⟨3, 2, .d, fun _ _ => .qPush32⟩,
  ⟨3, 3, .d, fun _ _ => .qPush64⟩,
  ⟨3, 4, .n, fun _ _ => .qPop⟩,
  ⟨3, 5, .n, fun _ _ => .qSpace⟩,
  ⟨3, 6, .n, fun _ _ => .qAvail⟩,
  ⟨3, 7, .n, fun _ _ => .qClear⟩,
  ⟨3, 8, .bit, fun a _ => .qPushBit a⟩,
  ⟨3, 9, .n, fun _ _ => .qFlushBits⟩,
  ⟨3, 10, .n, fun _ _ => .qRBegin⟩,
  ⟨3, 11, .n, fun _ _ => .qREnd⟩,
  ⟨3, 12, .a, fun a _ => .qSetDLen a⟩,
  ⟨4, 0, .n, fun _ _ => .tStart⟩,
  ⟨4, 1, .n, fun _ _ => .tNow⟩,
  ⟨4, 2, .n, fun _ _ => .tOvfSvc⟩]

/-- Why a word is illegal: the three cases of R87. -/
inductive Illegal where
  /-- UNIT is 5 to 15 -/
  | reservedUnit
  /-- FN has no row for its UNIT -/
  | reservedFn
  /-- a bit that the operation's format fixes at zero is 1 -/
  | nonzeroField
deriving DecidableEq, Repr

/-- The fields a format fixes at zero are zero (R82, R87). -/
def Format.admits (f : Format) (a b z : Byte) : Bool :=
  match f with
  | .n => a == 0 && b == 0 && z == 0
  | .a => b == 0 && z == 0
  | .ab => z == 0
  | .bit => a.extractLsb' 1 7 == 0 && b == 0 && z == 0
  | .d => a == 0 && b == 0 && z == 0

/-- The row of a UNIT and FN, if there is one (R86). -/
def findRow (u f : BitVec 4) : Option OpRow :=
  opMap.find? fun r => r.unit == u && r.fn == f

/-- The decoder: every word is legal or illegal (R86, R87). -/
def decode (w : OpWord) : Except Illegal Instr :=
  match findRow (unitOf w) (fnOf w) with
  | some r =>
    if r.format.admits (fieldA w) (fieldB w) (fieldZ w) then .ok (r.make (fieldA w) (fieldB w))
    else .error .nonzeroField
  | none => if 5 ≤ (unitOf w).toNat then .error .reservedUnit else .error .reservedFn

/-- `Legal(op)` of the issue procedure (60_exceptions.md R264). -/
def legal (w : OpWord) : Bool :=
  match decode w with
  | .ok _ => true
  | .error _ => false

/-- The encoder: the word of an operation (R80, R86). -/
def encode : Instr → OpWord
  | .cNop => packWord 0 0 0 0 0
  | .cStatus => packWord 0 1 0 0 0
  | .cInfo => packWord 0 2 0 0 0
  | .rxByte b => packWord 1 0 b 0 0
  | .rxStat => packWord 1 1 0 0 0
  | .rxCmd => packWord 1 2 0 0 0
  | .rxLen => packWord 1 3 0 0 0
  | .rxData i => packWord 1 4 i 0 0
  | .rxAck => packWord 1 5 0 0 0
  | .txCmd c n => packWord 2 0 c n 0
  | .txData n => packWord 2 1 n 0 0
  | .txErr code k => packWord 2 2 code k 0
  | .txByte b => packWord 2 3 b 0 0
  | .txEnd => packWord 2 4 0 0 0
  | .txDrain => packWord 2 5 0 0 0
  | .txFlush => packWord 2 6 0 0 0
  | .qPush b => packWord 3 0 b 0 0
  | .qPush16 => packWord 3 1 0 0 0
  | .qPush32 => packWord 3 2 0 0 0
  | .qPush64 => packWord 3 3 0 0 0
  | .qPop => packWord 3 4 0 0 0
  | .qSpace => packWord 3 5 0 0 0
  | .qAvail => packWord 3 6 0 0 0
  | .qClear => packWord 3 7 0 0 0
  | .qPushBit a => packWord 3 8 a 0 0
  | .qFlushBits => packWord 3 9 0 0 0
  | .qRBegin => packWord 3 10 0 0 0
  | .qREnd => packWord 3 11 0 0 0
  | .qSetDLen n => packWord 3 12 n 0 0
  | .tStart => packWord 4 0 0 0 0
  | .tNow => packWord 4 1 0 0 0
  | .tOvfSvc => packWord 4 2 0 0 0

/-- The fixed bits of a format (R82, last column). -/
def Format.mask : Format → OpWord
  | .n => 0xFFFFFFFF#32
  | .a => 0xFF00FFFF#32
  | .ab => 0xFF0000FF#32
  | .bit => 0xFFFEFFFF#32
  | .d => 0xFFFFFFFF#32

/-- The match value of a row: UNIT << 28 | FN << 24, every operand field zero (R85). -/
def OpRow.matchWord (r : OpRow) : OpWord :=
  r.unit.zeroExtend 32 <<< 28 ||| r.fn.zeroExtend 32 <<< 24

/-- The 32-bit word that `nbits` bits of the number `w` stand for, every bit above them zero; no
operation is longer than 32 bits. -/
def tableWord (nbits w : Nat) : Option OpWord :=
  if w % 2 ^ nbits < 2 ^ 32 then some (BitVec.ofNat 32 (w % 2 ^ nbits)) else none

/-- The operation the decoder reads from a word given as a number. -/
def decodeTableWord (nbits w : Nat) : Option Instr :=
  match tableWord nbits w with
  | some op =>
    match decode op with
    | .ok i => some i
    | .error _ => none
  | none => none

end Sys2Proof
end

