-- ==== Sys2Proof/Machine/State.lean ====
section
/-! DEFINITION. The state of the block (10_state.md), the reasons the model itself stops, and reset.
State is plain data. The block's own faults (60_exceptions.md R261) are registers of the state and
lead to a next state; they are not the model's stops. -/

namespace Sys2Proof.Machine

/-- A request port (00_scope.md R7): every 2-bit value is one (log 10). -/
inductive Port where
  /-- PROD, the producer -/
  | p0
  /-- CONS, the consumer -/
  | p1
  /-- OVFISR, the overflow interrupt handler -/
  | p2
  /-- RXT, the inbound transport -/
  | p3
deriving DecidableEq, Repr

/-- One value for each request port. -/
structure PerPort (α : Type) where
  p0 : α
  p1 : α
  p2 : α
  p3 : α
deriving DecidableEq, Repr

/-- RXST, the decoder's state (R42). The codes 5 to 7 are never held and have no constructor (log 10). -/
inductive RxState where
  | hunt
  | cmd
  | len
  | payload
  | chk
deriving DecidableEq, Repr

/-- NOW_PHASE (R37). The code 3 is never held and has no constructor (log 10). -/
inductive NowPhase where
  | idle
  | ph1
  | ph2
deriving DecidableEq, Repr

/-- An event of the TX stream (R45). -/
inductive TxEvent where
  | byte (b : Byte)
  | flush
deriving DecidableEq, Repr

/-- The two byte spaces (20_memory.md R60). -/
inductive Space where
  | qbuf
  | rxbuf
deriving DecidableEq, Repr

/-- The contents of a byte space: (index, byte) pairs, indices strictly rising, no pair whose byte is
what an unlisted index reads as (`Memory.wf` in Ops.lean). -/
abbrev Memory := List Host.Cell

/-- What can happen next: the block admits every interleaving of these (00_scope.md R8; log 4). -/
inductive Event where
  /-- the block performs the next step of port p's operation -/
  | turn (p : Port)
  /-- CTR: one tick of the counter (44_timestamp.md R231 to R233) -/
  | tick
  /-- the client of port p writes its operand input DIN (R21) -/
  | setDin (p : Port) (v : Data)
  /-- the external reset (70_reset_and_hazards.md R290) -/
  | reset
deriving DecidableEq, Repr

/-- The reasons the MODEL stops. -/
inductive Fault where
  /-- MemRead or MemWrite at an index the space does not have (20_memory.md R60: QBUF is 0..N-1,
  RXBUF is 0..254). Raised by `State.memRead` and `State.memWrite`. Safe: no state that meets
  `State.Wf` reaches it (log 12). -/
  | noSuchByte (sp : Space) (index : Nat)
deriving DecidableEq, Repr

/-- The reasons the model has no meaning for an operation. -/
inductive Refusal where
  /-- an operation without a meaning in this model, by its mnemonic. Raised by no arm of `exec`:
  every operation has its meaning. Safe. -/
  | notModelled (mnemonic : String)
deriving DecidableEq, Repr

/-- Everything the spec gives the machine (10_state.md), then the model's own fields. -/
structure State where
  /-- the parameters N, TSVAR, W (00_scope.md R5; log 1) -/
  cfg : Params
  /-- DIN[p], operand inputs (R21) -/
  din : PerPort Data
  /-- DOUT[p], result registers (R21) -/
  dout : PerPort Data
  /-- HEAD: where the next pushed byte goes (R23) -/
  head : BitVec 15
  /-- TAIL: the next byte to pop (R23) -/
  tail : BitVec 15
  /-- WROTE_LAST (R24) -/
  wroteLast : Bool
  /-- BITACC (R25) -/
  bitacc : Byte
  /-- BITCNT (R26) -/
  bitcnt : BitVec 3
  /-- QBUF (R60, R61) -/
  qbuf : Memory
  /-- REC_OPEN (R28) -/
  recOpen : Bool
  /-- REC_PORT (R28) -/
  recPort : Port
  /-- REC_COUNT (R29) -/
  recCount : BitVec 9
  /-- DATALEN (R30) -/
  datalen : Byte
  /-- TALLY, 64 - W bits in the low bits of 64 (R31; log 9) -/
  tally : Data
  /-- CNT, W bits in the low bits of 64 (R32; log 9) -/
  cnt : Data
  /-- OVF (R33) -/
  ovf : Bool
  /-- OVF_LOST (R34) -/
  ovfLost : Bool
  /-- RUN (R35) -/
  run : Bool
  /-- OVFIE (R36) -/
  ovfie : Bool
  /-- NOW_PHASE (R37) -/
  nowPhase : NowPhase
  /-- NOW_PORT (R37) -/
  nowPort : Port
  /-- NOW_PRE (R37) -/
  nowPre : Bool
  /-- NOW_V, W bits in the low bits of 64 (R37; log 9) -/
  nowV : Data
  /-- CHRAW (R38) -/
  chraw : Data
  /-- TX_OPEN (R39) -/
  txOpen : Bool
  /-- TX_PORT (R39) -/
  txPort : Port
  /-- TXSUM (R40) -/
  txsum : Byte
  /-- TXREM (R41) -/
  txrem : Byte
  /-- TXOUT, oldest event first (R45) -/
  txout : List TxEvent
  /-- RXST (R42) -/
  rxst : RxState
  /-- RXSUM (R43) -/
  rxsum : Byte
  /-- RXCMDR (R43) -/
  rxcmdr : Byte
  /-- RXLENR (R43) -/
  rxlenr : Byte
  /-- RXK (R43) -/
  rxk : Byte
  /-- RX_VALID (R44) -/
  rxValid : Bool
  /-- RXBUF (R60, R62) -/
  rxbuf : Memory
  /-- FAULTED (R46) -/
  faulted : Bool
  /-- FAULT_CODE (R46, R262) -/
  faultCode : Byte
  /-- FAULT_OP (R46) -/
  faultOp : OpWord
  /-- FAULT_PORT (R46) -/
  faultPort : Port
  /-- each agent's operation list (R22; log 5) -/
  ops : PerPort (List OpWord)
  /-- each agent's index into its list (R22; log 5) -/
  opIndex : PerPort Nat
  /-- the model's own: the port's current operation has been issued and holds, or is a T.NOW between
  its steps (00_scope.md R9, 70_reset_and_hazards.md R290; log 6) -/
  outstanding : PerPort Bool
  /-- the model's own: the port whose operation step is performed, the p of DIN[p] (log 8) -/
  grant : Port
  /-- the model's own: the events to come, in order (log 4) -/
  sched : List Event
deriving DecidableEq, Repr

/-- The block right after reset for given parameters: the values of 10_state.md R50. DIN, the client
side and the model's own fields have no value in the spec: DESIGN CHOICE (log 3, 4, 5, 6, 8), unsafe
for a claim that rests on them. -/
def State.resetWith (c : Params) : State where
  cfg := c
  din := ⟨0, 0, 0, 0⟩
  dout := ⟨0, 0, 0, 0⟩
  head := 0
  tail := 0
  wroteLast := false
  bitacc := 0
  bitcnt := 0
  qbuf := []
  recOpen := false
  recPort := .p0
  recCount := 0
  datalen := 0
  tally := 0
  cnt := 0
  ovf := false
  ovfLost := false
  run := false
  ovfie := false
  nowPhase := .idle
  nowPort := .p0
  nowPre := false
  nowV := 0
  chraw := 0xFFFFFFFFFFFFFFFF#64
  txOpen := false
  txPort := .p0
  txsum := 0
  txrem := 0
  txout := []
  rxst := .hunt
  rxsum := 0
  rxcmdr := 0
  rxlenr := 0
  rxk := 0
  rxValid := false
  rxbuf := []
  faulted := false
  faultCode := 0
  faultOp := 0
  faultPort := .p0
  ops := ⟨[], [], [], []⟩
  opIndex := ⟨0, 0, 0, 0⟩
  outstanding := ⟨false, false, false, false⟩
  grant := .p0
  sched := []

/-- The machine right after reset, with the parameters of the test vectors (log 1). -/
def State.reset : State := State.resetWith Params.ofVectors

end Sys2Proof.Machine
end

