-- ==== Sys2Proof/Machine/Operands.lean ====
section
/-! DEFINITION. Operands and results: the port registers, operand assembly (30_encoding.md R83, R84),
byte order (20_memory.md R63), and the arithmetic of 00_scope.md R10 and R11. -/

namespace Sys2Proof.Machine

/-- The value of port `p`. -/
def PerPort.get {α : Type} (r : PerPort α) (p : Port) : α :=
  match p with
  | .p0 => r.p0
  | .p1 => r.p1
  | .p2 => r.p2
  | .p3 => r.p3

/-- The same values but `v` at port `p`. -/
def PerPort.set {α : Type} (r : PerPort α) (p : Port) (v : α) : PerPort α :=
  match p with
  | .p0 => { r with p0 := v }
  | .p1 => { r with p1 := v }
  | .p2 => { r with p2 := v }
  | .p3 => { r with p3 := v }

/-- The port's number as the 2-bit registers REC_PORT, TX_PORT, NOW_PORT and FAULT_PORT hold it. -/
def Port.bits (p : Port) : BitVec 2 :=
  match p with
  | .p0 => 0
  | .p1 => 1
  | .p2 => 2
  | .p3 => 3

/-- `DIN[p]` of the issuing port (R21). -/
def State.dinOf (s : State) : Data := s.din.get s.grant

/-- `DOUT[p] <- v` of the issuing port (R21): no other port's register changes. -/
def State.setDout (s : State) (v : Data) : State := { s with dout := s.dout.set s.grant v }

/-- `zext_64` of a byte (R10, R84). -/
def zextByte (b : Byte) : Data := b.zeroExtend 64

/-- A one-bit result in 64 bits (R84). -/
def zextBit (b : Bool) : Data := (BitVec.ofBool b).zeroExtend 64

/-- Bytes 0 to k-1 of a wide operand, least significant first (R63, R83). -/
def leBytes (k : Nat) (v : Data) : List Byte :=
  (List.range k).map fun i => v.extractLsb' (8 * i) 8

/-- The operand of format BIT: A[0] (R83). -/
def bitOperand (a : Byte) : Bool := a.getLsbD 0

/-- `acc[k] <- d`, the other bits unchanged (43_queue.md R192). -/
def setBit (acc : Byte) (k : Nat) (d : Bool) : Byte :=
  acc &&& ~~~(1#8 <<< k) ||| (if d then 1#8 <<< k else 0#8)

/-- `(x + 1) mod N` on an index register (R11, 43_queue.md R181, R188). -/
def nextIndex (n : Nat) (x : BitVec 15) : BitVec 15 := BitVec.ofNat 15 ((x.toNat + 1) % n)

/-- `(x + 1) mod 2^k` on a register of k bits (R11). -/
def incMod (k : Nat) (x : Data) : Data := BitVec.ofNat 64 ((x.toNat + 1) % 2 ^ k)

/-- `'!'`, the start byte of command, response and error frames (30_encoding.md R91, R98). -/
def startMark : Byte := 0x21

/-- `'*'`, the start byte of data frames (R91, R98). -/
def dataMark : Byte := 0x2A

/-- `'E'`, the command byte of error frames (R96, R98). -/
def errorMark : Byte := 0x45

/-- The sum of bytes modulo 256. -/
def sumBytes (l : List Byte) : Byte := l.foldl (· + ·) 0

/-- The checksum byte that completes the sum `s`: (256 - s) mod 256 (R97). -/
def checksum (s : Byte) : Byte := BitVec.ofNat 8 ((256 - s.toNat) % 256)

/-- `(TALLY << W) | v` (44_timestamp.md R225). -/
def composeNow (w : Nat) (tally v : Data) : Data := (tally <<< w) ||| v

/-- v is in the lower half of its range: v < 2^(W-1) (R224). -/
def lowerHalf (w : Nat) (v : Data) : Bool := decide (v.toNat < 2 ^ (w - 1))

end Sys2Proof.Machine
end

