-- ==== Sys2Proof/Machine/Flags.lean ====
section
/-! DEFINITION. What the block derives from its state: queue occupancy (10_state.md R27), the
interrupt levels (R47) and the register views (R48, R49; 41_frame_rx.md R132). -/

namespace Sys2Proof.Machine

/-- OCC, the occupied bytes: equal indices with WROTE_LAST mean full, without it empty (R27). -/
def State.occ (s : State) : Nat :=
  if s.head = s.tail then (if s.wroteLast then s.cfg.n else 0)
  else (s.head.toNat + s.cfg.n - s.tail.toNat) % s.cfg.n

/-- SPACE = N - OCC (R27). -/
def State.space (s : State) : Nat := s.cfg.n - s.occ

/-- IRQ_OVF = (TSVAR == NARROW) & OVF & OVFIE (R47, 60_exceptions.md R265). -/
def State.irqOvf (s : State) : Bool := s.cfg.tsvar == .narrow && s.ovf && s.ovfie

/-- IRQ_FAULT = FAULTED (R47, 60_exceptions.md R266). -/
def State.irqFault (s : State) : Bool := s.faulted

/-- The 3-bit code of RXST (R42). -/
def RxState.bits (r : RxState) : BitVec 3 :=
  match r with
  | .hunt => 0
  | .cmd => 1
  | .len => 2
  | .payload => 3
  | .chk => 4

/-- The 2-bit code of NOW_PHASE (R37). -/
def NowPhase.bits (r : NowPhase) : BitVec 2 :=
  match r with
  | .idle => 0
  | .ph1 => 1
  | .ph2 => 2

/-- STATUS (R48, 40_control.md R121), from bit 63 down. -/
def State.statusWord (s : State) : Data :=
  s.faultOp ++ 0#5 ++ BitVec.ofBool s.ovfie ++ s.faultPort.bits ++ s.nowPhase.bits
    ++ s.rxst.bits ++ s.bitcnt ++ BitVec.ofBool s.run ++ BitVec.ofBool s.ovfLost
    ++ BitVec.ofBool (s.cfg.tsvar == .narrow && s.ovf) ++ BitVec.ofBool s.rxValid
    ++ BitVec.ofBool s.txOpen ++ BitVec.ofBool s.recOpen ++ BitVec.ofBool s.wroteLast
    ++ BitVec.ofBool s.faulted ++ s.faultCode

/-- INFO (R49, 40_control.md R122), from bit 63 down. -/
def State.infoWord (s : State) : Data :=
  s.rxsum ++ s.rxk ++ s.txsum ++ s.bitacc ++ s.txrem ++ 0#3 ++ s.txPort.bits ++ s.recPort.bits
    ++ s.recCount ++ s.datalen

/-- The word RX.STAT gives (41_frame_rx.md R132). -/
def State.rxStatWord (s : State) : Data :=
  (s.rxk ++ 0#4 ++ s.rxst.bits ++ BitVec.ofBool s.rxValid).zeroExtend 64

end Sys2Proof.Machine
end

