-- ==== Sys2Proof/Machine/Ops.lean ====
section
/-! DEFINITION. The named operations the meanings share: the byte spaces (20_memory.md), recording a
fault, the issue procedure and its ends (60_exceptions.md R261, R264; 00_scope.md R9), the push and
pop primitives (43_queue.md R181, R182, R188), the TX stream, and how a port's operation is fetched
(10_state.md R22). -/

namespace Sys2Proof.Machine

/-! Byte spaces -/

/-- What an index that nothing is listed for reads as. DESIGN CHOICE (log 2): R292 lets a model fix
the buffers' contents to 0; no operation of a run from reset reads such a byte (R75). -/
def unwrittenByte : Byte := 0

/-- One byte of a byte space. -/
def Memory.read (m : Memory) (a : Nat) : Byte :=
  match m with
  | [] => unwrittenByte
  | (a', b') :: m' => if a = a' then b' else Memory.read m' a

/-- The byte space with byte `b` at index `a`, in canonical form again. -/
def Memory.write (m : Memory) (a : Nat) (b : Byte) : Memory :=
  match m with
  | [] => if b = unwrittenByte then [] else [(a, b)]
  | (a', b') :: m' =>
    if a < a' then (if b = unwrittenByte then (a', b') :: m' else (a, b) :: (a', b') :: m')
    else if a = a' then (if b = unwrittenByte then m' else (a, b) :: m')
    else (a', b') :: Memory.write m' a b

/-- The canonical form: indices strictly rising, no listed byte equal to an unlisted one's. -/
def Memory.wf (m : Memory) : Bool :=
  match m with
  | [] => true
  | (a, b) :: m' => b != unwrittenByte && m'.all (fun c => decide (a < c.1)) && Memory.wf m'

/-- How many bytes a space has (R60). -/
def State.spaceSize (s : State) (sp : Space) : Nat :=
  match sp with
  | .qbuf => s.cfg.n
  | .rxbuf => rxbufSize

/-- The contents of a space. -/
def State.bytesOf (s : State) (sp : Space) : Memory :=
  match sp with
  | .qbuf => s.qbuf
  | .rxbuf => s.rxbuf

/-- The state with one byte of a space replaced. -/
def State.setByte (s : State) (sp : Space) (a : Nat) (b : Byte) : State :=
  match sp with
  | .qbuf => { s with qbuf := s.qbuf.write a b }
  | .rxbuf => { s with rxbuf := s.rxbuf.write a b }

/-- MemRead(S, a, 1) (R10, R61, R62). An index outside the space does not exist (log 12). -/
def State.memRead (s : State) (sp : Space) (a : Nat) : Except Fault Byte :=
  if a < s.spaceSize sp then .ok ((s.bytesOf sp).read a) else .error (.noSuchByte sp a)

/-- MemWrite(S, a, 1, b) (R10, R61, R62). An index outside the space does not exist (log 12). -/
def State.memWrite (s : State) (sp : Space) (a : Nat) (b : Byte) : Except Fault State :=
  if a < s.spaceSize sp then .ok (s.setByte sp a b) else .error (.noSuchByte sp a)

/-! Faults of the block -/

/-- The codes a fault can have (60_exceptions.md R262). -/
inductive FaultCode where
  | illegalOp
  | qOverflow
  | qUnderflow
  | recSequence
  | recLength
  | datalenUnset
  | txSequence
  | txLength
  | txRange
  | rxSequence
  | rxRange
deriving DecidableEq, Repr

/-- The value FAULT_CODE takes (R262). -/
def FaultCode.bits (c : FaultCode) : Byte :=
  match c with
  | .illegalOp => 0x01
  | .qOverflow => 0x02
  | .qUnderflow => 0x03
  | .recSequence => 0x04
  | .recLength => 0x05
  | .datalenUnset => 0x06
  | .txSequence => 0x07
  | .txLength => 0x08
  | .txRange => 0x09
  | .rxSequence => 0x0A
  | .rxRange => 0x0B

/-- Taking the block's exception: record the fault of the word `op` issued on the granted port, if it
is the first (R261). -/
def State.recordFault (s : State) (c : FaultCode) (op : OpWord) : State :=
  if s.faulted then s
  else { s with faulted := true, faultCode := c.bits, faultOp := op, faultPort := s.grant }

/-! How an operation step ends -/

/-- What the rule of an operation answers. -/
inductive OpResult where
  /-- it completes with this state -/
  | done (t : State)
  /-- one of its steps is performed and more follow (T.NOW, R224) -/
  | more (t : State)
  /-- it holds (00_scope.md R9) -/
  | hold
  /-- `raise Fault(c)` (60_exceptions.md R261) -/
  | raise (c : FaultCode)
  /-- the model stops -/
  | stop (f : Fault)
deriving DecidableEq, Repr

/-- The port's operation completes: its index advances by one (10_state.md R22). -/
def State.complete (s : State) (p : Port) : State :=
  { s with
    opIndex := s.opIndex.set p (s.opIndex.get p + 1)
    outstanding := s.outstanding.set p false }

/-- The port's operation is issued and not complete: it keeps its place (00_scope.md R9). -/
def State.wait (s : State) (p : Port) : State :=
  { s with outstanding := s.outstanding.set p true }

/-- The end of an operation step on the granted port. A fault discards whatever the step would have
changed and completes the operation (R261); a hold leaves it at the port (R9). -/
def finish (i : Instr) (s : State) (r : OpResult) : Host.Outcome State Fault Refusal :=
  match r with
  | .done t => .next (t.complete s.grant)
  | .more t => .next (t.wait s.grant)
  | .hold => .next (s.wait s.grant)
  | .raise c => .next ((s.recordFault c (encode i)).complete s.grant)
  | .stop f => .fault f

/-- The issue procedure for an operation outside unit CTL: after a recorded fault it is consumed with
no effect (60_exceptions.md R264). A CTL operation goes to `finish` directly. -/
def issue (i : Instr) (s : State) (r : OpResult) : Host.Outcome State Fault Refusal :=
  if s.faulted then .next (s.complete s.grant) else finish i s r

/-- The issue procedure for a word that is not legal: ILLEGAL_OP, or nothing after a fault (R264). -/
def issueIllegal (op : OpWord) (s : State) : Host.Outcome State Fault Refusal :=
  .next ((s.recordFault .illegalOp op).complete s.grant)

/-- A check of a rule: raise, or go on. -/
def check (c : Option FaultCode) (r : OpResult) : OpResult :=
  match c with
  | some c => .raise c
  | none => r

/-- Complete with the state computed, or stop where a byte does not exist. -/
def doneOr (r : Except Fault State) : OpResult :=
  match r with
  | .ok t => .done t
  | .error f => .stop f

/-! The queue's primitives -/

/-- PushCheck(p, n) for the granted port, in the order of its rule (43_queue.md R182, R263). -/
def pushCheck (s : State) (n : Nat) : Option FaultCode :=
  if s.recOpen ∧ s.grant ≠ s.recPort then some .recSequence
  else if s.recOpen ∧ s.datalen.toNat < s.recCount.toNat + n then some .recLength
  else if s.space < n then some .qOverflow
  else none

/-- The register part of PushByte (R181). -/
def State.pushed (s : State) : State :=
  { s with
    head := nextIndex s.cfg.n s.head
    wroteLast := true
    recCount := if s.recOpen then s.recCount + 1 else s.recCount }

/-- PushByte (R181). -/
def pushByte (s : State) (b : Byte) : Except Fault State :=
  match s.memWrite .qbuf s.head.toNat b with
  | .ok t => .ok t.pushed
  | .error f => .error f

/-- PushByte for each byte of the list, in order (R184 to R186). -/
def pushBytes (s : State) (bs : List Byte) : Except Fault State :=
  match bs with
  | [] => .ok s
  | b :: bs' =>
    match pushByte s b with
    | .ok t => pushBytes t bs'
    | .error f => .error f

/-- The register part of PopByte (R188). -/
def State.popped (s : State) : State :=
  { s with tail := nextIndex s.cfg.n s.tail, wroteLast := false }

/-- PopByte (R188): the byte and the state after. -/
def popByte (s : State) : Except Fault (Byte × State) :=
  match s.memRead .qbuf s.tail.toNat with
  | .ok b => .ok (b, s.popped)
  | .error f => .error f

/-- `k` times PopByte: the bytes in order and the state after (42_frame_tx.md R156). -/
def popBytes (s : State) (k : Nat) : Except Fault (List Byte × State) :=
  match k with
  | 0 => .ok ([], s)
  | k' + 1 =>
    match popByte s with
    | .ok (b, t) =>
      match popBytes t k' with
      | .ok (bs, u) => .ok (b :: bs, u)
      | .error f => .error f
    | .error f => .error f

/-- The rule every push of whole bytes follows: check them all, then push them (R182 to R186). -/
def pushRule (s : State) (bs : List Byte) : OpResult :=
  check (pushCheck s bs.length) (doneOr (pushBytes s bs))

/-! The TX stream -/

/-- `emit(b)` for each byte, in order (10_state.md R45). -/
def State.emit (s : State) (bs : List Byte) : State :=
  { s with txout := s.txout ++ bs.map TxEvent.byte }

/-- `emit_flush()` (R45). -/
def State.emitFlush (s : State) : State := { s with txout := s.txout ++ [TxEvent.flush] }

/-! Fetching a port's operation -/

/-- The word port `p` has at its index, if its list goes that far (R22). -/
def State.currentOp (s : State) (p : Port) : Option OpWord := (s.ops.get p)[s.opIndex.get p]?

/-- A list with `w` at place `k`, C.NOP words before it where the list was shorter. -/
def placeAt (l : List OpWord) (k : Nat) (w : OpWord) : List OpWord :=
  match l, k with
  | [], 0 => [w]
  | [], k' + 1 => 0#32 :: placeAt [] k' w
  | _ :: l', 0 => w :: l'
  | x :: l', k' + 1 => x :: placeAt l' k' w

/-- The state in which port `p` issues `w` as its next operation and takes the next turn. -/
def State.loadOp (s : State) (p : Port) (w : OpWord) : State :=
  { s with
    ops := s.ops.set p (placeAt (s.ops.get p) (s.opIndex.get p) w)
    sched := .turn p :: s.sched }

end Sys2Proof.Machine
end

