-- ==== Sys2Proof/Machine/Control.lean ====
section
/-! DEFINITION. Unit CTL (40_control.md). These act after a recorded fault too (60_exceptions.md R264). -/

namespace Sys2Proof.Machine

/-- C.NOP (R120). -/
def execCNop (s : State) : Host.Outcome State Fault Refusal := finish .cNop s (.done s)

/-- C.STATUS (R121). -/
def execCStatus (s : State) : Host.Outcome State Fault Refusal :=
  finish .cStatus s (.done (s.setDout s.statusWord))

/-- C.INFO (R122). -/
def execCInfo (s : State) : Host.Outcome State Fault Refusal :=
  finish .cInfo s (.done (s.setDout s.infoWord))

end Sys2Proof.Machine
end

