-- ==== Sys2Proof/Machine/FrameRx.lean ====
section
/-! DEFINITION. Unit RX, the frame decoder (41_frame_rx.md). -/

namespace Sys2Proof.Machine

/-- The decoder takes one byte, no frame being held (R131). -/
def rxStep (s : State) (b : Byte) : OpResult :=
  match s.rxst with
  | .hunt => .done (if b = startMark then { s with rxsum := startMark, rxst := .cmd } else s)
  | .cmd => .done { s with rxcmdr := b, rxsum := s.rxsum + b, rxst := .len }
  | .len =>
    .done { s with
      rxlenr := b
      rxsum := s.rxsum + b
      rxk := 0
      rxst := if b = 0 then .chk else .payload }
  | .payload =>
    match s.memWrite .rxbuf s.rxk.toNat b with
    | .ok t =>
      .done { t with
        rxsum := s.rxsum + b
        rxst := if s.rxk + 1 = s.rxlenr then .chk else .payload
        rxk := s.rxk + 1 }
    | .error f => .stop f
  | .chk =>
    .done { s with
      rxsum := s.rxsum + b
      rxst := .hunt
      rxValid := decide (s.rxsum + b = 0) || s.rxValid }

/-- RX.BYTE (R131): it holds while a frame is held. -/
def execRxByte (b : Byte) (s : State) : Host.Outcome State Fault Refusal :=
  issue (.rxByte b) s (if s.rxValid then .hold else rxStep s b)

/-- RX.STAT (R132). -/
def execRxStat (s : State) : Host.Outcome State Fault Refusal :=
  issue .rxStat s (.done (s.setDout s.rxStatWord))

/-- The check of every operation on the held frame (R133 to R136). -/
def rxHeldCheck (s : State) : Option FaultCode :=
  if s.rxValid then none else some .rxSequence

/-- RX.CMD (R133). -/
def execRxCmd (s : State) : Host.Outcome State Fault Refusal :=
  issue .rxCmd s (check (rxHeldCheck s) (.done (s.setDout (zextByte s.rxcmdr))))

/-- RX.LEN (R134). -/
def execRxLen (s : State) : Host.Outcome State Fault Refusal :=
  issue .rxLen s (check (rxHeldCheck s) (.done (s.setDout (zextByte s.rxlenr))))

/-- The index check of RX.DATA (R135). -/
def rxRangeCheck (s : State) (i : Byte) : Option FaultCode :=
  if s.rxlenr.toNat ≤ i.toNat then some .rxRange else none

/-- The read of RX.DATA (R135). -/
def rxDataRead (s : State) (i : Byte) : OpResult :=
  match s.memRead .rxbuf i.toNat with
  | .ok b => .done (s.setDout (zextByte b))
  | .error f => .stop f

/-- RX.DATA (R135): RX_SEQUENCE is checked before RX_RANGE. -/
def execRxData (i : Byte) (s : State) : Host.Outcome State Fault Refusal :=
  issue (.rxData i) s (check (rxHeldCheck s) (check (rxRangeCheck s i) (rxDataRead s i)))

/-- RX.ACK (R136). -/
def execRxAck (s : State) : Host.Outcome State Fault Refusal :=
  issue .rxAck s (check (rxHeldCheck s) (.done { s with rxValid := false }))

end Sys2Proof.Machine
end

