-- ==== Sys2Proof/Machine/FrameTx.lean ====
section
/-! DEFINITION. Unit TX, the frame encoder (42_frame_tx.md). -/

namespace Sys2Proof.Machine

/-- No frame may be open (R151 to R153, R156). -/
def txClosedCheck (s : State) : Option FaultCode :=
  if s.txOpen then some .txSequence else none

/-- The granted port must have a frame open (R154, R155). -/
def txOwnerCheck (s : State) : Option FaultCode :=
  if s.txOpen = false ∨ s.txPort ≠ s.grant then some .txSequence else none

/-- Emit a frame's header, declare `rem` payload bytes and make the granted port the owner (R151 to R153). -/
def txOpenFrame (s : State) (header : List Byte) (rem : Byte) : State :=
  { s.emit header with
    txsum := sumBytes header
    txrem := rem
    txOpen := true
    txPort := s.grant }

/-- TX.CMD (R151). -/
def execTxCmd (c n : Byte) (s : State) : Host.Outcome State Fault Refusal :=
  issue (.txCmd c n) s (check (txClosedCheck s) (.done (txOpenFrame s [startMark, c, n] n)))

/-- TX.DATA (R152). -/
def execTxData (n : Byte) (s : State) : Host.Outcome State Fault Refusal :=
  issue (.txData n) s (check (txClosedCheck s) (.done (txOpenFrame s [dataMark, n] n)))

/-- The limit of 254 extra bytes (R153). -/
def txErrRangeCheck (k : Byte) : Option FaultCode :=
  if k = 255#8 then some .txRange else none

/-- TX.ERR (R153): TX_SEQUENCE is checked before TX_RANGE. -/
def execTxErr (code k : Byte) (s : State) : Host.Outcome State Fault Refusal :=
  issue (.txErr code k) s (check (txClosedCheck s) (check (txErrRangeCheck k)
    (.done (txOpenFrame s [startMark, errorMark, k + 1, code] k))))

/-- TX.BYTE (R154). -/
def execTxByte (b : Byte) (s : State) : Host.Outcome State Fault Refusal :=
  issue (.txByte b) s (check (txOwnerCheck s)
    (check (if s.txrem = 0 then some .txLength else none)
      (.done { s.emit [b] with txsum := s.txsum + b, txrem := s.txrem - 1 })))

/-- TX.END (R155). -/
def execTxEnd (s : State) : Host.Outcome State Fault Refusal :=
  issue .txEnd s (check (txOwnerCheck s)
    (check (if s.txrem = 0 then none else some .txLength)
      (.done { s.emit [checksum s.txsum] with txOpen := false, txsum := 0 })))

/-- A record is needed and no frame may be open (R156), DATALEN_UNSET first. -/
def txDrainCheck (s : State) : Option FaultCode :=
  if s.datalen = 0 then some .datalenUnset else txClosedCheck s

/-- Send one queued record as a data frame, or nothing if fewer than DATALEN bytes are queued (R156). -/
def txDrainRule (s : State) : OpResult :=
  if s.occ < s.datalen.toNat then .done (s.setDout (zextBit false))
  else
    match popBytes s s.datalen.toNat with
    | .ok (bs, t) =>
      .done ((t.emit (dataMark :: s.datalen :: bs
        ++ [checksum (dataMark + s.datalen + sumBytes bs)])).setDout (zextBit true))
    | .error f => .stop f

/-- TX.DRAIN (R156), one atomic step. -/
def execTxDrain (s : State) : Host.Outcome State Fault Refusal :=
  issue .txDrain s (check (txDrainCheck s) (txDrainRule s))

/-- TX.FLUSH (R157). -/
def execTxFlush (s : State) : Host.Outcome State Fault Refusal :=
  issue .txFlush s (.done s.emitFlush)

end Sys2Proof.Machine
end

