-- ==== Sys2Proof/Machine/Queue.lean ====
section
/-! DEFINITION. Unit Q, the queue, the bit packer and the record bracket (43_queue.md). -/

namespace Sys2Proof.Machine

/-- Q.PUSH (R183). -/
def execQPush (b : Byte) (s : State) : Host.Outcome State Fault Refusal :=
  issue (.qPush b) s (pushRule s [b])

/-- Q.PUSH16 (R184): DIN[p][15:0]. -/
def execQPush16 (s : State) : Host.Outcome State Fault Refusal :=
  issue .qPush16 s (pushRule s (leBytes 2 s.dinOf))

/-- Q.PUSH32 (R185): DIN[p][31:0]. -/
def execQPush32 (s : State) : Host.Outcome State Fault Refusal :=
  issue .qPush32 s (pushRule s (leBytes 4 s.dinOf))

/-- Q.PUSH64 (R186): DIN[p][63:0]. -/
def execQPush64 (s : State) : Host.Outcome State Fault Refusal :=
  issue .qPush64 s (pushRule s (leBytes 8 s.dinOf))

/-- Pop one byte into DOUT (R187). -/
def popRule (s : State) : OpResult :=
  match popByte s with
  | .ok (b, t) => .done (t.setDout (zextByte b))
  | .error f => .stop f

/-- Q.POP (R187). -/
def execQPop (s : State) : Host.Outcome State Fault Refusal :=
  issue .qPop s (check (if s.occ = 0 then some .qUnderflow else none) (popRule s))

/-- Q.SPACE (R189). -/
def execQSpace (s : State) : Host.Outcome State Fault Refusal :=
  issue .qSpace s (.done (s.setDout (BitVec.ofNat 64 s.space)))

/-- Q.AVAIL (R190). -/
def execQAvail (s : State) : Host.Outcome State Fault Refusal :=
  issue .qAvail s (.done (s.setDout (zextBit (decide (0 < s.occ)))))

/-- No record may be open (R191, R196). -/
def recClosedCheck (s : State) : Option FaultCode :=
  if s.recOpen then some .recSequence else none

/-- Q.CLEAR (R191). -/
def execQClear (s : State) : Host.Outcome State Fault Refusal :=
  issue .qClear s (check (recClosedCheck s)
    (.done { s with head := 0, tail := 0, wroteLast := false, bitacc := 0, bitcnt := 0 }))

/-- While a record is open only its port may feed it (R192, R193). -/
def recForeignCheck (s : State) : Option FaultCode :=
  if s.recOpen ∧ s.grant ≠ s.recPort then some .recSequence else none

/-- Push the accumulator's byte and set BITCNT to 0; BITACC keeps its value (R192, R193, R195). -/
def pushAcc (s : State) : OpResult :=
  match pushByte s s.bitacc with
  | .ok t => .done { t with bitcnt := 0 }
  | .error f => .stop f

/-- Accumulate the bit `d`; the eighth completes a byte (R192). -/
def pushBitRule (s : State) (d : Bool) : OpResult :=
  if s.bitcnt = 7 then
    check (pushCheck s 1) (pushAcc { s with bitacc := setBit s.bitacc 7 d })
  else
    .done { s with bitacc := setBit s.bitacc s.bitcnt.toNat d, bitcnt := s.bitcnt + 1 }

/-- Q.PUSHBIT (R192). -/
def execQPushBit (a : Byte) (s : State) : Host.Outcome State Fault Refusal :=
  issue (.qPushBit a) s (check (recForeignCheck s) (pushBitRule s (bitOperand a)))

/-- Q.FLUSHBITS (R193). -/
def execQFlushBits (s : State) : Host.Outcome State Fault Refusal :=
  issue .qFlushBits s (check (recForeignCheck s)
    (if s.bitcnt = 0 then .done s else check (pushCheck s 1) (pushAcc s)))

/-- The checks of Q.RBEGIN in their order (R194, R263). -/
def rbeginCheck (s : State) : Option FaultCode :=
  if s.datalen = 0 then some .datalenUnset
  else if s.recOpen then some .recSequence
  else if s.bitcnt ≠ 0 then some .recSequence
  else none

/-- Q.RBEGIN (R194): a sample that does not fit is dropped, not a fault. -/
def execQRBegin (s : State) : Host.Outcome State Fault Refusal :=
  issue .qRBegin s (check (rbeginCheck s)
    (if s.space < s.datalen.toNat then .done (s.setDout (zextBit false))
     else .done ({ s with recOpen := true, recPort := s.grant, recCount := 0 }.setDout (zextBit true))))

/-- The bytes the flush at record end pushes: 1 if bits are pending, else 0 (R195). -/
def flushCount (s : State) : Nat := if s.bitcnt = 0 then 0 else 1

/-- The checks of Q.REND in their order (R195). -/
def rendCheck (s : State) : Option FaultCode :=
  if s.recOpen = false ∨ s.grant ≠ s.recPort then some .recSequence
  else if s.recCount.toNat + flushCount s ≠ s.datalen.toNat then some .recLength
  else none

/-- Close the record after the flush (R195). -/
def closeRecord (r : OpResult) : OpResult :=
  match r with
  | .done t => .done { t with recOpen := false, recCount := 0 }
  | r => r

/-- Q.REND (R195). -/
def execQREnd (s : State) : Host.Outcome State Fault Refusal :=
  issue .qREnd s (check (rendCheck s)
    (closeRecord (if s.bitcnt = 0 then .done s else pushAcc s)))

/-- Q.SETDLEN (R196). -/
def execQSetDLen (n : Byte) (s : State) : Host.Outcome State Fault Refusal :=
  issue (.qSetDLen n) s (check (recClosedCheck s) (.done { s with datalen := n }))

end Sys2Proof.Machine
end

