-- ==== Sys2Proof/Machine/Timestamp.lean ====
section
/-! DEFINITION. Unit T, the timestamp reconciler (44_timestamp.md section 1). -/

namespace Sys2Proof.Machine

/-- A T.NOW is between its steps: the unit's operations hold (R226). -/
def unlessInWindow (s : State) (r : OpResult) : OpResult :=
  if s.nowPhase = .idle then r else .hold

/-- T.START (R222): every register listed is written whichever TSVAR is chosen. -/
def execTStart (s : State) : Host.Outcome State Fault Refusal :=
  issue .tStart s (unlessInWindow s (.done { s with
    tally := 0
    cnt := 0
    ovf := false
    ovfLost := false
    chraw := 0xFFFFFFFFFFFFFFFF#64
    run := true
    ovfie := true }))

/-- Step PH1 of T.NOW: sample the overflow flag (R224). -/
def nowPh1 (s : State) : State :=
  { s with nowPre := s.ovf, nowPort := s.grant, nowPhase := .ph1 }

/-- Step PH2 of T.NOW: sample the counter (R224). -/
def nowPh2 (s : State) : State := { s with nowV := s.cnt, nowPhase := .ph2 }

/-- An overflow is counted at PH3: seen before the window, or after it with v in the lower half (R224). -/
def nowCounts (s : State) : Bool := s.nowPre || (s.ovf && lowerHalf s.cfg.w s.nowV)

/-- Count an overflow: TALLY + 1 modulo 2^(64-W), OVF cleared (R224, R227). -/
def countOverflow (s : State) : State :=
  { s with tally := incMod (64 - s.cfg.w) s.tally, ovf := false }

/-- Step PH3 of T.NOW: reconcile, compose with the new TALLY and deliver (R224, R225). -/
def nowPh3 (s : State) : State :=
  let t := if nowCounts s then countOverflow s else s
  { t with
    dout := t.dout.set t.nowPort (composeNow t.cfg.w t.tally t.nowV)
    nowPhase := .idle }

/-- The step of a T.NOW in the NARROW variant. PH1 begins it; PH2 and PH3 belong to the port that
began it, and any other T.NOW holds meanwhile (R224, R226). -/
def nowNarrow (s : State) : OpResult :=
  match s.nowPhase with
  | .idle => .more (nowPh1 s)
  | .ph1 => if s.nowPort = s.grant then .more (nowPh2 s) else .hold
  | .ph2 => if s.nowPort = s.grant then .done (nowPh3 s) else .hold

/-- The granted port's T.NOW has been issued and is between its steps (R224; log 13). -/
def nowInProgress (s : State) : Bool := s.nowPhase != .idle && s.nowPort == s.grant

/-- T.NOW (R223, R224). The remaining steps of one in progress are not new issues: they run after a
recorded fault too (60_exceptions.md R264). -/
def execTNow (s : State) : Host.Outcome State Fault Refusal :=
  match s.cfg.tsvar with
  | .chained => issue .tNow s (.done (s.setDout (~~~ s.chraw)))
  | .narrow => if nowInProgress s then finish .tNow s (nowNarrow s) else issue .tNow s (nowNarrow s)

/-- T.OVFSVC (R227): it counts an overflow only if OVF is still set. -/
def execTOvfSvc (s : State) : Host.Outcome State Fault Refusal :=
  issue .tOvfSvc s (unlessInWindow s
    (.done (if s.cfg.tsvar = .narrow ∧ s.ovf then countOverflow s else s)))

end Sys2Proof.Machine
end

