-- ==== Sys2Proof/Machine/Dispatch.lean ====
section
/-! DEFINITION. The meaning of each operation, issued on the granted port (60_exceptions.md R264). -/

namespace Sys2Proof.Machine

def exec (i : Instr) (s : State) : Host.Outcome State Fault Refusal :=
  match i with
  | .cNop => Sys2Proof.Machine.execCNop s
  | .cStatus => Sys2Proof.Machine.execCStatus s
  | .cInfo => Sys2Proof.Machine.execCInfo s
  | .rxByte b => Sys2Proof.Machine.execRxByte b s
  | .rxStat => Sys2Proof.Machine.execRxStat s
  | .rxCmd => Sys2Proof.Machine.execRxCmd s
  | .rxLen => Sys2Proof.Machine.execRxLen s
  | .rxData ix => Sys2Proof.Machine.execRxData ix s
  | .rxAck => Sys2Proof.Machine.execRxAck s
  | .txCmd c n => Sys2Proof.Machine.execTxCmd c n s
  | .txData n => Sys2Proof.Machine.execTxData n s
  | .txErr code k => Sys2Proof.Machine.execTxErr code k s
  | .txByte b => Sys2Proof.Machine.execTxByte b s
  | .txEnd => Sys2Proof.Machine.execTxEnd s
  | .txDrain => Sys2Proof.Machine.execTxDrain s
  | .txFlush => Sys2Proof.Machine.execTxFlush s
  | .qPush b => Sys2Proof.Machine.execQPush b s
  | .qPush16 => Sys2Proof.Machine.execQPush16 s
  | .qPush32 => Sys2Proof.Machine.execQPush32 s
  | .qPush64 => Sys2Proof.Machine.execQPush64 s
  | .qPop => Sys2Proof.Machine.execQPop s
  | .qSpace => Sys2Proof.Machine.execQSpace s
  | .qAvail => Sys2Proof.Machine.execQAvail s
  | .qClear => Sys2Proof.Machine.execQClear s
  | .qPushBit a => Sys2Proof.Machine.execQPushBit a s
  | .qFlushBits => Sys2Proof.Machine.execQFlushBits s
  | .qRBegin => Sys2Proof.Machine.execQRBegin s
  | .qREnd => Sys2Proof.Machine.execQREnd s
  | .qSetDLen n => Sys2Proof.Machine.execQSetDLen n s
  | .tStart => Sys2Proof.Machine.execTStart s
  | .tNow => Sys2Proof.Machine.execTNow s
  | .tOvfSvc => Sys2Proof.Machine.execTOvfSvc s

end Sys2Proof.Machine
end

