-- ==== Sys2Proof/Machine/Events.lean ====
section
/-! DEFINITION. The events that are no operation: the counter's TICK (44_timestamp.md R231 to R233),
a client's write of DIN (10_state.md R21) and reset (70_reset_and_hazards.md R290). -/

namespace Sys2Proof.Machine

/-- TICK with TSVAR = NARROW and RUN = 1 (R231). -/
def tickNarrow (s : State) : State :=
  if s.cnt.toNat = 2 ^ s.cfg.w - 1 then
    { s with cnt := 0, ovfLost := s.ovf || s.ovfLost, ovf := true }
  else
    { s with cnt := incMod s.cfg.w s.cnt }

/-- TICK with TSVAR = CHAINED and RUN = 1 (R232). -/
def tickChained (s : State) : State := { s with chraw := s.chraw - 1#64 }

/-- TICK (R231 to R233): nothing changes while RUN = 0. -/
def State.tick (s : State) : State :=
  if s.run then
    match s.cfg.tsvar with
    | .narrow => tickNarrow s
    | .chained => tickChained s
  else s

/-- The client of port `p` sets its operand input (R21). -/
def State.writeDin (s : State) (p : Port) (v : Data) : State := { s with din := s.din.set p v }

/-- The index of a port after reset: an operation in progress or held is abandoned (R290; log 6). -/
def abandonAt (s : State) (p : Port) : Nat :=
  if s.outstanding.get p then s.opIndex.get p + 1 else s.opIndex.get p

/-- Reset (R290): every register takes its value of 10_state.md R50, TXOUT is observed afresh, and
held or half-done operations are abandoned. The buffers keep their bytes (DESIGN CHOICE, log 7); DIN
is an input, and the clients' lists are not the block's (log 5). -/
def State.applyReset (s : State) : State :=
  { State.resetWith s.cfg with
    din := s.din
    qbuf := s.qbuf
    rxbuf := s.rxbuf
    ops := s.ops
    opIndex := ⟨abandonAt s .p0, abandonAt s .p1, abandonAt s .p2, abandonAt s .p3⟩
    outstanding := ⟨false, false, false, false⟩
    grant := s.grant
    sched := s.sched }

end Sys2Proof.Machine
end

