-- ==== Sys2Proof/Machine/Turn.lean ====
section
/-! DEFINITION. What each event does (00_scope.md R8): a port's turn fetches, decodes and performs. -/

namespace Sys2Proof.Machine

/-- The granted port's turn: fetch its operation, decode it, perform its next step. A port whose list
is at its end has nothing to issue (10_state.md R22; log 5). -/
def turn (s : State) : Host.Outcome State Fault Refusal :=
  match s.currentOp s.grant with
  | none => .next s
  | some w =>
    match decode w with
    | .ok i => exec i s
    | .error _ => issueIllegal w s

/-- The effect of an event. -/
def perform (e : Event) (s : State) : Host.Outcome State Fault Refusal :=
  match e with
  | .turn p => turn { s with grant := p }
  | .tick => .next s.tick
  | .setDin p v => .next (s.writeDin p v)
  | .reset => .next s.applyReset

/-- The number `w` read as a word of `nbits` bits, put where port 0 fetches its next operation. -/
def State.loadTableWord (s : State) (nbits w : Nat) : State :=
  match tableWord nbits w with
  | some op => s.loadOp .p0 op
  | none => s

end Sys2Proof.Machine
end

