-- ==== Sys2Proof/Machine/Step.lean ====
section
/-! DEFINITION. One step of the block: the next event of the schedule (00_scope.md R8). -/

namespace Sys2Proof.Machine

/-- One step: take the next event. With none left nothing happens (log 4). -/
def step (s : State) : Host.Outcome State Fault Refusal :=
  match s.sched with
  | [] => .next s
  | e :: rest => perform e { s with sched := rest }

/-- The state with that word as the next operation of port 0 and port 0's turn next. -/
def State.withFetchWord (s : State) (nbits w : Nat) : State := s.loadTableWord nbits w

end Sys2Proof.Machine
end

