-- ==== Sys2Proof/Machine/Frames.lean ====
section
/-! DEFINITION. The wire frames (30_encoding.md R91 to R97) and the sample record (R100 to R103), as the
statements speak of them. The meanings emit and take frames byte by byte; they do not use these. -/

namespace Sys2Proof.Machine

/-- A frame: the bytes before the checksum, then the byte that makes the whole sum 0 (R97). -/
def closeFrame (bs : List Byte) : List Byte := bs ++ [checksum (sumBytes bs)]

/-- Command frame and response frame: `'!' | cmd | len | data | chk` (R93, R94). -/
def commandFrame (cmd : Byte) (data : List Byte) : List Byte :=
  closeFrame (startMark :: cmd :: BitVec.ofNat 8 data.length :: data)

/-- Data frame: `'*' | len | data | chk` (R95). -/
def dataFrame (data : List Byte) : List Byte :=
  closeFrame (dataMark :: BitVec.ofNat 8 data.length :: data)

/-- Error frame: `'!' | 'E' | extra_len + 1 | code | extra | chk` (R96). -/
def errorFrame (code : Byte) (extra : List Byte) : List Byte :=
  closeFrame (startMark :: errorMark :: BitVec.ofNat 8 (extra.length + 1) :: code :: extra)

/-- The two trigger modes a record's timestamp depends on (R102). -/
inductive TriggerMode where
  | timed
  | pinChange
deriving DecidableEq, Repr

/-- Timestamp width in bytes per trigger mode (R102). -/
def timestampWidth (m : TriggerMode) : Nat :=
  match m with
  | .timed => 4
  | .pinChange => 8

/-- The channel kinds of a record and the value each contributes (R100). -/
inductive ChannelValue where
  | analog (v : BitVec 16)
  | frequency (v : BitVec 32)
  | digital (d : Bool)
deriving DecidableEq, Repr

/-- The record length a configuration has (R101). -/
def recordLength (m : TriggerMode) (nA nF nD : Nat) : Nat :=
  timestampWidth m + 2 * nA + 4 * nF + (nD + 7) / 8

end Sys2Proof.Machine
end

