-- ==== Sys2Proof/Machine/Pseudo.lean ====
section
/-! DEFINITION. The pseudo-instructions (30_encoding.md R90) and the sequence that records a sample
(R100). Each is a sequence of operations on one port; a sequence is not atomic as a whole. -/

namespace Sys2Proof.Machine

/-- The payload bytes and the end of a frame. -/
def payloadOps (bs : List Byte) : List Instr := bs.map Instr.txByte ++ [.txEnd]

/-- TX.FRAME c, b0, ..., b(n-1) with n ≤ 255 (R90). -/
def txFrame (c : Byte) (bs : List Byte) : Option (List Instr) :=
  if bs.length ≤ 255 then some (.txCmd c (BitVec.ofNat 8 bs.length) :: payloadOps bs) else none

/-- TX.DFRAME b0, ..., b(n-1) with n ≤ 255 (R90). -/
def txDFrame (bs : List Byte) : Option (List Instr) :=
  if bs.length ≤ 255 then some (.txData (BitVec.ofNat 8 bs.length) :: payloadOps bs) else none

/-- TX.ERROR code, e0, ..., e(k-1) with k ≤ 254, ending in a flush (R90). -/
def txError (code : Byte) (es : List Byte) : Option (List Instr) :=
  if es.length ≤ 254 then
    some (.txErr code (BitVec.ofNat 8 es.length) :: payloadOps es ++ [.txFlush])
  else none

/-- Q.DIGITAL b0, ..., b(k-1) (R90). -/
def qDigital (ds : List Bool) : List Instr :=
  ds.map fun d => .qPushBit ((BitVec.ofBool d).zeroExtend 8)

/-- What a client does on its port: write DIN, or issue an operation (R89). -/
inductive ClientAct where
  | din (v : Data)
  | op (i : Instr)
deriving DecidableEq, Repr

/-- The push of one channel value (R100). -/
def channelActs (v : ChannelValue) : List ClientAct :=
  match v with
  | .analog x => [.din (x.zeroExtend 64), .op .qPush16]
  | .frequency x => [.din (x.zeroExtend 64), .op .qPush32]
  | .digital d => [.op (.qPushBit ((BitVec.ofBool d).zeroExtend 8))]

/-- A whole sample record: Q.RBEGIN, the timestamp, each channel in configured order, Q.REND (R100,
R102). A client pushes nothing when Q.RBEGIN gave 0 (70_reset_and_hazards.md R296). -/
def recordActs (m : TriggerMode) (timestamp : Data) (chs : List ChannelValue) : List ClientAct :=
  .op .qRBegin :: .din timestamp
    :: .op (match m with | .timed => .qPush32 | .pinChange => .qPush64)
    :: chs.flatMap channelActs ++ [.op .qREnd]

/-- The handshake of 70_reset_and_hazards.md R294, whose banner the client chooses. -/
def handshake (banner : List Byte) : Option (List Instr) :=
  match txFrame 0x48 banner with
  | some f => some (.qClear :: .tStart :: f ++ [.rxAck])
  | none => none

end Sys2Proof.Machine
end

