-- ==== Sys2Proof/Safety.lean ====
section
/-! DEFINITION. What the statements speak of: the invariants of 10_state.md R53 and those they rest on,
the queue's contents as a list, the reference quantity of the timestamp rules, how an operation step
ends, and short runs of operations. -/

namespace Sys2Proof.Machine

/-! The queue as a list -/

/-- The queued bytes, oldest first: OCC bytes from TAIL on, modulo N (20_memory.md R71). -/
def contents (s : State) : List Byte :=
  (List.range s.occ).map fun i => s.qbuf.read ((s.tail.toNat + i) % s.cfg.n)

/-! Timestamps -/

/-- OVF as a number. -/
def ovfCount (s : State) : Nat := if s.ovf then 1 else 0

/-- E = ((TALLY + OVF) · 2^W + CNT) mod 2^64 (44_timestamp.md R228). -/
def timeValue (s : State) : Nat :=
  ((s.tally.toNat + ovfCount s) * 2 ^ s.cfg.w + s.cnt.toNat) % 2 ^ 64

/-! The TX stream -/

/-- The byte of an event, if it is one. -/
def TxEvent.toByte (e : TxEvent) : Option Byte :=
  match e with
  | .byte b => some b
  | .flush => none

/-- The sum modulo 256 of every byte of a TX stream. -/
def streamSum (l : List TxEvent) : Byte := sumBytes (l.filterMap TxEvent.toByte)

/-! Invariants -/

/-- Every listed byte of a space is one the space has, and the list is canonical. -/
abbrev Memory.Within (m : Memory) (size : Nat) : Prop :=
  m.wf = true ∧ m.all (fun c => decide (c.1 < size)) = true

/-- The indices stay in 0..N-1 (R23). -/
abbrev State.QueueWf (s : State) : Prop :=
  s.head.toNat < s.cfg.n ∧ s.tail.toNat < s.cfg.n ∧ s.qbuf.Within s.cfg.n

/-- I-Q3 (R53), and an open record's missing bytes fit in the queue (43_queue.md R182). -/
abbrev State.RecordWf (s : State) : Prop :=
  (s.recOpen = false → s.recCount = 0) ∧
  (s.recOpen = true → s.recCount.toNat ≤ s.datalen.toNat ∧ 1 ≤ s.datalen.toNat ∧
    s.datalen.toNat ≤ s.recCount.toNat + s.space)

/-- The registers of W and 64 - W bits hold as many (R31, R32, R37); RUN and OVFIE go together (R35,
R36); before the first T.START nothing was counted (44_timestamp.md R224, R233). -/
abbrev State.TimeWf (s : State) : Prop :=
  s.cnt.toNat < 2 ^ s.cfg.w ∧ s.nowV.toNat < 2 ^ s.cfg.w ∧ s.tally.toNat < 2 ^ (64 - s.cfg.w) ∧
  s.run = s.ovfie ∧
  (s.run = false → s.cnt = 0 ∧ s.tally = 0 ∧ s.ovf = false ∧ s.ovfLost = false ∧
    s.chraw = BitVec.allOnes 64)

/-- I-T1 (R53): a T.NOW is between its steps only with TSVAR = NARROW, and then it is the outstanding
operation of NOW_PORT. A pre-flag that was seen stays set in the window (44_timestamp.md R228). -/
abbrev State.WindowWf (s : State) : Prop :=
  s.nowPhase ≠ .idle →
    s.cfg.tsvar = .narrow ∧ s.currentOp s.nowPort = some (encode .tNow) ∧
    s.outstanding.get s.nowPort = true ∧ (s.nowPre = true → s.ovf = true)

/-- I-R1 (R53), and the payload index stays below the declared length (41_frame_rx.md R131). -/
abbrev State.RxWf (s : State) : Prop :=
  (s.rxValid = true → s.rxst = .hunt ∧ s.rxk = s.rxlenr) ∧
  (s.rxst = .payload → s.rxk.toNat < s.rxlenr.toNat) ∧
  (s.rxst = .chk → s.rxk = s.rxlenr) ∧
  s.rxbuf.Within rxbufSize

/-- With no frame open nothing is summed or owed, and the bytes ever sent sum to the open frame's
partial sum: every complete frame sums to 0 (42_frame_tx.md R158). -/
abbrev State.TxWf (s : State) : Prop :=
  (s.txOpen = false → s.txsum = 0 ∧ s.txrem = 0) ∧ streamSum s.txout = s.txsum

/-- The fault registers are all clear, or hold a code of R262 (R46). -/
abbrev State.FaultWf (s : State) : Prop :=
  (s.faulted = false → s.faultCode = 0 ∧ s.faultOp = 0 ∧ s.faultPort = .p0) ∧
  (s.faulted = true → 1 ≤ s.faultCode.toNat ∧ s.faultCode.toNat ≤ 0x0B)

/-- The invariant of the block. -/
abbrev State.Wf (s : State) : Prop :=
  s.cfg.Legal ∧ s.QueueWf ∧ s.RecordWf ∧ s.TimeWf ∧ s.WindowWf ∧ s.RxWf ∧ s.TxWf ∧ s.FaultWf

/-! How an operation step ends -/

/-- The operation completes with `t`, and the granted port advances (10_state.md R22). -/
abbrev Completes (i : Instr) (s t : State) : Prop := exec i s = .next (t.complete s.grant)

/-- The operation holds: nothing but the model's own outstanding mark changes (00_scope.md R9). -/
abbrev Holds (i : Instr) (s : State) : Prop := exec i s = .next (s.wait s.grant)

/-- The operation raises its fault on an unfaulted block: the fault registers are written, nothing else
changes, and the port advances (60_exceptions.md R261). -/
abbrev Faults (i : Instr) (s : State) (c : FaultCode) : Prop :=
  exec i s = .next (({ s with
    faulted := true
    faultCode := c.bits
    faultOp := encode i
    faultPort := s.grant } : State).complete s.grant)

/-- A push of `k` bytes passes PushCheck (43_queue.md R182). -/
abbrev PushFits (s : State) (k : Nat) : Prop :=
  (s.recOpen = true → s.grant = s.recPort ∧ s.recCount.toNat + k ≤ s.datalen.toNat) ∧ k ≤ s.space

/-! Kinds of operations -/

/-- Unit CTL: what still acts after a fault (60_exceptions.md R264). -/
def isControl (i : Instr) : Bool :=
  match i with
  | .cNop | .cStatus | .cInfo => true
  | .rxByte _ | .rxStat | .rxCmd | .rxLen | .rxData _ | .rxAck | .txCmd _ _ | .txData _ | .txErr _ _
  | .txByte _ | .txEnd | .txDrain | .txFlush | .qPush _ | .qPush16 | .qPush32 | .qPush64 | .qPop
  | .qSpace | .qAvail | .qClear | .qPushBit _ | .qFlushBits | .qRBegin | .qREnd | .qSetDLen _
  | .tStart | .tNow | .tOvfSvc => false

/-- The operations that can hold (00_scope.md R9). -/
def canHold (i : Instr) : Bool :=
  match i with
  | .rxByte _ | .tStart | .tNow | .tOvfSvc => true
  | .cNop | .cStatus | .cInfo | .rxStat | .rxCmd | .rxLen | .rxData _ | .rxAck | .txCmd _ _
  | .txData _ | .txErr _ _ | .txByte _ | .txEnd | .txDrain | .txFlush | .qPush _ | .qPush16 | .qPush32
  | .qPush64 | .qPop | .qSpace | .qAvail | .qClear | .qPushBit _ | .qFlushBits | .qRBegin | .qREnd
  | .qSetDLen _ => false

/-- The operations that write DOUT (30_encoding.md R84). -/
def writesDout (i : Instr) : Bool :=
  match i with
  | .cStatus | .cInfo | .rxStat | .rxCmd | .rxLen | .rxData _ | .txDrain | .qPop | .qSpace | .qAvail
  | .qRBegin | .tNow => true
  | .cNop | .rxByte _ | .rxAck | .txCmd _ _ | .txData _ | .txErr _ _ | .txByte _ | .txEnd | .txFlush
  | .qPush _ | .qPush16 | .qPush32 | .qPush64 | .qClear | .qPushBit _ | .qFlushBits | .qREnd
  | .qSetDLen _ | .tStart | .tOvfSvc => false

/-- A push of whole bytes and how many it pushes (20_memory.md R66). -/
abbrev IsPush (i : Instr) (k : Nat) : Prop :=
  (∃ b, i = .qPush b ∧ k = 1) ∨ (i = .qPush16 ∧ k = 2) ∨ (i = .qPush32 ∧ k = 4) ∨
    (i = .qPush64 ∧ k = 8)

/-! Reset -/

/-- Every register at its reset value (10_state.md R50), the buffers apart. -/
abbrev ResetRegisters (t : State) : Prop :=
  (t.head = 0 ∧ t.tail = 0 ∧ t.wroteLast = false ∧ t.bitacc = 0 ∧ t.bitcnt = 0) ∧
  (t.recOpen = false ∧ t.recPort = .p0 ∧ t.recCount = 0 ∧ t.datalen = 0) ∧
  (t.tally = 0 ∧ t.cnt = 0 ∧ t.ovf = false ∧ t.ovfLost = false ∧ t.run = false ∧ t.ovfie = false) ∧
  (t.nowPhase = .idle ∧ t.nowPort = .p0 ∧ t.nowPre = false ∧ t.nowV = 0 ∧
    t.chraw = 0xFFFFFFFFFFFFFFFF#64) ∧
  (t.txOpen = false ∧ t.txPort = .p0 ∧ t.txsum = 0 ∧ t.txrem = 0 ∧ t.txout = []) ∧
  (t.rxst = .hunt ∧ t.rxsum = 0 ∧ t.rxcmdr = 0 ∧ t.rxlenr = 0 ∧ t.rxk = 0 ∧ t.rxValid = false) ∧
  (t.faulted = false ∧ t.faultCode = 0 ∧ t.faultOp = 0 ∧ t.faultPort = .p0) ∧
  ∀ p, t.dout.get p = 0

/-! Words and bytes -/

/-- The match and mask of every row of the operation map, as spec/opcode_table.json lists them (R86). -/
def tableRows : List (OpWord × OpWord) := [
  (0x00000000, 0xFFFFFFFF), (0x01000000, 0xFFFFFFFF), (0x02000000, 0xFFFFFFFF),
  (0x10000000, 0xFF00FFFF), (0x11000000, 0xFFFFFFFF), (0x12000000, 0xFFFFFFFF),
  (0x13000000, 0xFFFFFFFF), (0x14000000, 0xFF00FFFF), (0x15000000, 0xFFFFFFFF),
  (0x20000000, 0xFF0000FF), (0x21000000, 0xFF00FFFF), (0x22000000, 0xFF0000FF),
  (0x23000000, 0xFF00FFFF), (0x24000000, 0xFFFFFFFF), (0x25000000, 0xFFFFFFFF),
  (0x26000000, 0xFFFFFFFF), (0x30000000, 0xFF00FFFF), (0x31000000, 0xFFFFFFFF),
  (0x32000000, 0xFFFFFFFF), (0x33000000, 0xFFFFFFFF), (0x34000000, 0xFFFFFFFF),
  (0x35000000, 0xFFFFFFFF), (0x36000000, 0xFFFFFFFF), (0x37000000, 0xFFFFFFFF),
  (0x38000000, 0xFFFEFFFF), (0x39000000, 0xFFFFFFFF), (0x3A000000, 0xFFFFFFFF),
  (0x3B000000, 0xFFFFFFFF), (0x3C000000, 0xFF00FFFF), (0x40000000, 0xFFFFFFFF),
  (0x41000000, 0xFFFFFFFF), (0x42000000, 0xFFFFFFFF)]

/-- The bytes with bit `k` of byte `j` flipped. -/
def flipBit (bs : List Byte) (j k : Nat) : List Byte := bs.modify j fun b => b ^^^ (1#8 <<< k)

/-! Short runs on the granted port -/

/-- The operations one after another, each completing or not, on the granted port. -/
def runOps (s : State) (is : List Instr) : Option State :=
  match is with
  | [] => some s
  | i :: rest =>
    match exec i s with
    | .next t => runOps t rest
    | _ => none

/-- RX.BYTE for each byte. -/
def feed (s : State) (bs : List Byte) : Option State := runOps s (bs.map Instr.rxByte)

/-! The window of a T.NOW -/

/-- `s` runs to `t` by steps that are neither a turn of port `p` nor a reset, `k` of them ticks. -/
inductive WindowRun (p : Port) : Nat → State → State → Prop where
  | refl (s : State) : WindowRun p 0 s s
  | tick {k : Nat} {s t u : State} (before : WindowRun p k s t)
      (event : t.sched.head? = some .tick) (now : step t = .next u) : WindowRun p (k + 1) s u
  | other {k : Nat} {s t u : State} (e : Event) (before : WindowRun p k s t)
      (event : t.sched.head? = some e) (noTick : e ≠ .tick) (noReset : e ≠ .reset)
      (notOwn : e ≠ .turn p) (now : step t = .next u) : WindowRun p k s u

end Sys2Proof.Machine
end

