-- ==== Sys2Proof/Certificates/Slice0/Obligations.lean ====
section
/-! DEFINITION. The statements for the provers. `Completes i s t`, `Holds i s` and `Faults i s c` of
Safety.lean say how the step of an operation on the granted port ends; an equation for the state after
says what changed AND that nothing else did. -/

open Sys2Proof Sys2Proof.Machine

/-! Encoding -/

/-- Every operand of every well-formed operation survives encoding and decoding (30_encoding.md R80, R86). -/
def Obligations.DecodeInvertsEncode : Prop :=
  ∀ i : Instr, i.wellFormed = true → decode (encode i) = .ok i

/-- A legal word is the word of the operation it decodes to: no bit is ignored (R87). -/
def Obligations.EncodeInvertsDecode : Prop :=
  ∀ (w : OpWord) (i : Instr), decode w = .ok i → encode i = w ∧ i.wellFormed = true

/-- A word is legal exactly when it matches a row of the operation map under the row's mask (R86, R87). -/
def Obligations.LegalWordsAreTheTable : Prop :=
  ∀ w : OpWord, legal w = true ↔ ∃ r ∈ tableRows, w &&& r.2 = r.1

/-- Words of the vectors of 95_test_vectors.md decode to the operations those name, or are illegal. -/
def Obligations.VectorWordsDecode : Prop :=
  decode 0x01000000 = .ok .cStatus ∧ decode 0x10210000 = .ok (.rxByte 0x21) ∧
  decode 0x20560200 = .ok (.txCmd 0x56 2) ∧ decode 0x22010100 = .ok (.txErr 1 1) ∧
  decode 0x30410000 = .ok (.qPush 0x41) ∧ decode 0x38010000 = .ok (.qPushBit 1) ∧
  decode 0x41000000 = .ok .tNow ∧ decode 0x30410100 = .error .nonzeroField ∧
  decode 0x38020000 = .error .nonzeroField ∧ decode 0x02000100 = .error .nonzeroField

/-! The step -/

/-- A turn of a port whose word decodes runs exactly that operation on that port, the event taken. -/
def Obligations.StepRunsDecodedOperation : Prop :=
  ∀ (s : State) (p : Port) (rest : List Event) (w : OpWord) (i : Instr),
    s.sched = .turn p :: rest → s.currentOp p = some w → decode w = .ok i →
    step s = exec i { s with sched := rest, grant := p }

/-- An illegal word raises ILLEGAL_OP and has no other effect; after a fault it is consumed
(60_exceptions.md R264). -/
def Obligations.IllegalWordRaisesIllegalOp : Prop :=
  ∀ (s : State) (p : Port) (rest : List Event) (w : OpWord) (e : Illegal),
    s.sched = .turn p :: rest → s.currentOp p = some w → decode w = .error e →
    (s.faulted = false → step s = .next (({ s with
      sched := rest
      grant := p
      faulted := true
      faultCode := 0x01
      faultOp := w
      faultPort := p } : State).complete p)) ∧
    (s.faulted = true → step s = .next (({ s with sched := rest, grant := p } : State).complete p))

/-- A client's write of DIN changes that operand input only; a port with nothing to issue, or no event
at all, changes nothing of the block (the model's choices, log 4 and 5). -/
def Obligations.ClientEventsTouchOnlyTheirOwn : Prop :=
  ∀ s : State,
    (s.sched = [] → step s = .next s) ∧
    (∀ p rest, s.sched = .turn p :: rest → s.currentOp p = none →
      step s = .next { s with sched := rest, grant := p }) ∧
    (∀ p v rest, s.sched = .setDin p v :: rest →
      ∃ t, step s = .next t ∧ t = { s with sched := rest, din := t.din } ∧ t.din.get p = v ∧
        ∀ q, q ≠ p → t.din.get q = s.din.get q)

/-- Every step takes one event from the schedule and leaves the parameters as they are: the model's
choices (log 4: the events to come are a list that a step reads one at a time; log 1: the arguments N,
TSVAR and W stand in State). -/
def Obligations.StepKeepsParameters : Prop :=
  ∀ s t : State, step s = .next t → t.cfg = s.cfg ∧ t.sched = s.sched.tail

/-- An operation step moves no other port; its own port advances by one when the operation completes,
and stays, marked outstanding, only for the operations that can hold or take several steps
(10_state.md R22, 00_scope.md R9). The clients' lists and inputs are not touched. -/
def Obligations.OnlyTheGrantedPortAdvances : Prop :=
  ∀ (i : Instr) (s t : State), exec i s = .next t →
    t.ops = s.ops ∧ t.din = s.din ∧ t.sched = s.sched ∧ t.grant = s.grant ∧
    (∀ q, q ≠ s.grant →
      t.opIndex.get q = s.opIndex.get q ∧ t.outstanding.get q = s.outstanding.get q) ∧
    ((t.opIndex.get s.grant = s.opIndex.get s.grant + 1 ∧ t.outstanding.get s.grant = false) ∨
     (t.opIndex.get s.grant = s.opIndex.get s.grant ∧ t.outstanding.get s.grant = true ∧
      canHold i = true))

/-- An operation writes only the DOUT of the port that issued it, and only the operations that return a
value write it (10_state.md R21, 30_encoding.md R84). -/
def Obligations.DoutIsWrittenByItsOwnPort : Prop :=
  ∀ (i : Instr) (s t : State), exec i s = .next t →
    (∀ q, q ≠ s.grant → t.dout.get q = s.dout.get q) ∧ (writesDout i = false → t.dout = s.dout)

/-! Reset and the invariant -/

/-- Right after reset every register holds its value of 10_state.md R50, for every choice of parameters. -/
def Obligations.ResetGivesTheResetValues : Prop :=
  ∀ c : Params, (State.resetWith c).cfg = c ∧ ResetRegisters (State.resetWith c)

/-- The state after reset meets the invariant, for every legal choice of parameters. -/
def Obligations.ResetIsWellFormed : Prop :=
  (∀ c : Params, c.Legal → (State.resetWith c).Wf) ∧ State.reset.Wf

/-- Every step from a state that meets the invariant gives one that meets it: the indices stay in the
queue, the record, decoder, encoder, window and fault registers agree, both spaces keep their form, and
the bytes ever sent sum to the open frame's partial sum (10_state.md R53, 42_frame_tx.md R158). -/
def Obligations.StepKeepsWellFormed : Prop :=
  ∀ s t : State, s.Wf → step s = .next t → t.Wf

/-- From a state that meets the invariant the model never stops: no operation is refused and no byte
that a space lacks is touched. -/
def Obligations.StepNeverStops : Prop :=
  ∀ s : State, s.Wf → ∃ t, step s = .next t

/-- The reset event gives every register its reset value, lowers both interrupt lines, keeps the
parameters, and abandons what was outstanding (70_reset_and_hazards.md R290). How an abandoned
operation's port moves on, and that DIN, the clients' lists and the buffers' bytes stay as they are, are
the model's choices (log 5, 6 and 7). -/
def Obligations.ResetEventRestoresTheRegisters : Prop :=
  ∀ (s : State) (rest : List Event), s.sched = .reset :: rest →
    ∃ t, step s = .next t ∧ ResetRegisters t ∧ t.irqOvf = false ∧ t.irqFault = false ∧
      t.cfg = s.cfg ∧ t.sched = rest ∧
      (∀ p, t.outstanding.get p = false ∧
        t.opIndex.get p = s.opIndex.get p + (if s.outstanding.get p then 1 else 0)) ∧
      t.din = s.din ∧ t.ops = s.ops ∧
      (∀ a, t.qbuf.read a = s.qbuf.read a) ∧ ∀ a, t.rxbuf.read a = s.rxbuf.read a

/-! Faults of the block -/

/-- If an operation step records the first fault, it changes nothing but the fault registers and its
port's place, for every operation (60_exceptions.md R261). -/
def Obligations.FirstFaultIsPrecise : Prop :=
  ∀ (i : Instr) (s t : State), s.faulted = false → exec i s = .next t → t.faulted = true →
    ∃ c : FaultCode, c ≠ .illegalOp ∧ t = ({ s with
      faulted := true
      faultCode := c.bits
      faultOp := encode i
      faultPort := s.grant } : State).complete s.grant

/-- After a fault every operation outside unit CTL is consumed with no effect, except the remaining
steps of a T.NOW that is between its steps (R264). -/
def Obligations.AfterFaultOnlyControlActs : Prop :=
  ∀ (i : Instr) (s : State), s.faulted = true → isControl i = false →
    ¬(i = .tNow ∧ s.cfg.tsvar = .narrow ∧ s.nowPhase ≠ .idle ∧ s.nowPort = s.grant) →
    exec i s = .next (s.complete s.grant)

/-- A recorded fault's registers are never overwritten, and only reset clears them (R261, R270). -/
def Obligations.FaultRegistersLastUntilReset : Prop :=
  ∀ s t : State, s.faulted = true → s.sched.head? ≠ some .reset → step s = .next t →
    t.faulted = true ∧ t.faultCode = s.faultCode ∧ t.faultOp = s.faultOp ∧ t.faultPort = s.faultPort

/-- The operations of 00_scope.md R9 hold: RX.BYTE while a frame is held, T.START, T.OVFSVC and another
port's T.NOW while a T.NOW is in progress. -/
def Obligations.HeldOperationsChangeNothing : Prop :=
  ∀ s : State, s.faulted = false →
    (s.rxValid = true → ∀ b, Holds (.rxByte b) s) ∧
    (s.nowPhase ≠ .idle → Holds .tStart s ∧ Holds .tOvfSvc s) ∧
    (s.nowPhase ≠ .idle → s.cfg.tsvar = .narrow → s.nowPort ≠ s.grant → Holds .tNow s)

/-! Unit CTL -/

/-- C.NOP changes no state and completes, faulted or not (40_control.md R120). -/
def Obligations.CNopChangesNothing : Prop :=
  ∀ s : State, Completes .cNop s s

/-- C.STATUS writes the STATUS word of 10_state.md R48 and nothing else, faulted or not (R121). -/
def Obligations.CStatusGivesTheStatusWord : Prop :=
  ∀ s : State, ∃ d : Data, Completes .cStatus s { s with dout := s.dout.set s.grant d } ∧
    d.extractLsb' 0 8 = s.faultCode ∧ d.getLsbD 8 = s.faulted ∧ d.getLsbD 9 = s.wroteLast ∧
    d.getLsbD 10 = s.recOpen ∧ d.getLsbD 11 = s.txOpen ∧ d.getLsbD 12 = s.rxValid ∧
    (s.cfg.tsvar = .narrow → d.getLsbD 13 = s.ovf) ∧
    (s.cfg.tsvar = .chained → d.getLsbD 13 = false) ∧
    d.getLsbD 14 = s.ovfLost ∧ d.getLsbD 15 = s.run ∧ d.extractLsb' 16 3 = s.bitcnt ∧
    d.extractLsb' 19 3 = s.rxst.bits ∧ d.extractLsb' 22 2 = s.nowPhase.bits ∧
    d.extractLsb' 24 2 = s.faultPort.bits ∧ d.getLsbD 26 = s.ovfie ∧ d.extractLsb' 27 5 = 0 ∧
    d.extractLsb' 32 32 = s.faultOp

/-- C.INFO writes the INFO word of 10_state.md R49 and nothing else, faulted or not (R122). -/
def Obligations.CInfoGivesTheInfoWord : Prop :=
  ∀ s : State, ∃ d : Data, Completes .cInfo s { s with dout := s.dout.set s.grant d } ∧
    d.extractLsb' 0 8 = s.datalen ∧ d.extractLsb' 8 9 = s.recCount ∧
    d.extractLsb' 17 2 = s.recPort.bits ∧ d.extractLsb' 19 2 = s.txPort.bits ∧
    d.extractLsb' 21 3 = 0 ∧ d.extractLsb' 24 8 = s.txrem ∧ d.extractLsb' 32 8 = s.bitacc ∧
    d.extractLsb' 40 8 = s.txsum ∧ d.extractLsb' 48 8 = s.rxk ∧ d.extractLsb' 56 8 = s.rxsum

/-! Unit RX -/

/-- RX.BYTE in the states HUNT, CMD, LEN and CHK (41_frame_rx.md R131). -/
def Obligations.RxByteOutsideThePayload : Prop :=
  ∀ (s : State) (b : Byte), s.faulted = false → s.rxValid = false →
    (s.rxst = .hunt → b ≠ 0x21 → Completes (.rxByte b) s s) ∧
    (s.rxst = .hunt → b = 0x21 → Completes (.rxByte b) s { s with rxsum := 0x21, rxst := .cmd }) ∧
    (s.rxst = .cmd →
      Completes (.rxByte b) s { s with rxcmdr := b, rxsum := s.rxsum + b, rxst := .len }) ∧
    (s.rxst = .len → Completes (.rxByte b) s { s with
      rxlenr := b
      rxsum := s.rxsum + b
      rxk := 0
      rxst := if b = 0 then .chk else .payload }) ∧
    (s.rxst = .chk → Completes (.rxByte b) s { s with
      rxsum := s.rxsum + b
      rxst := .hunt
      rxValid := decide (s.rxsum + b = 0) })

/-- RX.BYTE in the state PAYLOAD stores its byte at RXK and nowhere else (R131). -/
def Obligations.RxByteStoresThePayload : Prop :=
  ∀ (s : State) (b : Byte), s.faulted = false → s.rxValid = false → s.rxst = .payload →
    s.rxk.toNat < 255 → s.rxbuf.wf = true →
    ∃ t, Completes (.rxByte b) s t ∧ t = { s with
        rxbuf := t.rxbuf
        rxsum := s.rxsum + b
        rxst := if s.rxk + 1 = s.rxlenr then .chk else .payload
        rxk := s.rxk + 1 } ∧
      ∀ a, t.rxbuf.read a = if a = s.rxk.toNat then b else s.rxbuf.read a

/-- RX.STAT polls the decoder (R132); RX.CMD, RX.LEN and RX.DATA read the held frame and RX.ACK releases
it (R133 to R136); nothing else changes. -/
def Obligations.RxReadsAndReleasesTheHeldFrame : Prop :=
  ∀ s : State, s.faulted = false →
    (∃ d : Data, Completes .rxStat s { s with dout := s.dout.set s.grant d } ∧
      d.getLsbD 0 = s.rxValid ∧ d.extractLsb' 1 3 = s.rxst.bits ∧ d.extractLsb' 4 4 = 0 ∧
      d.extractLsb' 8 8 = s.rxk ∧ d.extractLsb' 16 48 = 0) ∧
    (s.rxValid = true →
      Completes .rxCmd s { s with dout := s.dout.set s.grant (s.rxcmdr.zeroExtend 64) } ∧
      Completes .rxLen s { s with dout := s.dout.set s.grant (s.rxlenr.zeroExtend 64) } ∧
      (∀ i : Byte, i.toNat < s.rxlenr.toNat → Completes (.rxData i) s
        { s with dout := s.dout.set s.grant ((s.rxbuf.read i.toNat).zeroExtend 64) }) ∧
      Completes .rxAck s { s with rxValid := false })

/-- RX_SEQUENCE with no frame held, RX_RANGE past the payload, in that order (R133 to R136). -/
def Obligations.RxFaultConditions : Prop :=
  ∀ s : State, s.faulted = false →
    (s.rxValid = false →
      Faults .rxCmd s .rxSequence ∧ Faults .rxLen s .rxSequence ∧ Faults .rxAck s .rxSequence ∧
      ∀ i, Faults (.rxData i) s .rxSequence) ∧
    (s.rxValid = true → ∀ i : Byte, s.rxlenr.toNat ≤ i.toNat → Faults (.rxData i) s .rxRange)

/-- A command frame with a correct checksum that meets the decoder hunting is accepted at its last byte
and not before, and held as sent (R137, R138). -/
def Obligations.RxAcceptsACorrectFrame : Prop :=
  ∀ (s : State) (cmd : Byte) (data : List Byte), s.faulted = false → s.rxst = .hunt →
    s.rxValid = false → s.rxbuf.wf = true → data.length ≤ 255 →
    (∀ k, k < data.length + 4 →
      ∃ u, feed s ((commandFrame cmd data).take k) = some u ∧ u.rxValid = false) ∧
    ∃ t, feed s (commandFrame cmd data) = some t ∧ t.rxValid = true ∧ t.rxst = .hunt ∧
      t.rxcmdr = cmd ∧ t.rxlenr.toNat = data.length ∧
      (∀ (j : Nat) (h : j < data.length), t.rxbuf.read j = data[j]) ∧
      t.txout = s.txout ∧ t.dout = s.dout ∧ t.faulted = false

/-- A frame of the declared length whose bytes do not sum to 0 is dropped silently at its last byte, and
the decoder hunts again (R137, R139). -/
def Obligations.RxDropsAWrongChecksum : Prop :=
  ∀ (s : State) (cmd chk : Byte) (data : List Byte), s.faulted = false → s.rxst = .hunt →
    s.rxValid = false → s.rxbuf.wf = true → data.length ≤ 255 →
    sumBytes (0x21 :: cmd :: BitVec.ofNat 8 data.length :: data ++ [chk]) ≠ 0 →
    ∃ t, feed s (0x21 :: cmd :: BitVec.ofNat 8 data.length :: data ++ [chk]) = some t ∧
      t.rxValid = false ∧ t.rxst = .hunt ∧ t.txout = s.txout ∧ t.dout = s.dout ∧ t.faulted = false

/-- One flipped bit in the command, a payload or the checksum byte of a correct frame drops the frame
(R138). -/
def Obligations.RxDropsASingleBitFlip : Prop :=
  ∀ (s : State) (cmd : Byte) (data : List Byte) (j k : Nat), s.faulted = false → s.rxst = .hunt →
    s.rxValid = false → s.rxbuf.wf = true → data.length ≤ 255 →
    j < data.length + 4 → j ≠ 0 → j ≠ 2 → k < 8 →
    ∃ t, feed s (flipBit (commandFrame cmd data) j k) = some t ∧ t.rxValid = false ∧ t.rxst = .hunt ∧
      t.txout = s.txout

/-! Unit TX -/

/-- TX.CMD, TX.DATA and TX.ERR emit their header, declare the payload and make the port the owner
(42_frame_tx.md R151 to R153). -/
def Obligations.TxOpenersEmitTheHeader : Prop :=
  ∀ (s : State) (c n : Byte), s.faulted = false → s.txOpen = false →
    Completes (.txCmd c n) s { s with
      txout := s.txout ++ [.byte 0x21, .byte c, .byte n]
      txsum := 0x21 + c + n
      txrem := n
      txOpen := true
      txPort := s.grant } ∧
    Completes (.txData n) s { s with
      txout := s.txout ++ [.byte 0x2A, .byte n]
      txsum := 0x2A + n
      txrem := n
      txOpen := true
      txPort := s.grant } ∧
    (n ≠ 255 → Completes (.txErr c n) s { s with
      txout := s.txout ++ [.byte 0x21, .byte 0x45, .byte (n + 1), .byte c]
      txsum := 0x21 + 0x45 + (n + 1) + c
      txrem := n
      txOpen := true
      txPort := s.grant })

/-- TX.BYTE emits a byte the frame owes; TX.END emits the byte that makes the frame sum to 0 and closes
it (R154, R155). -/
def Obligations.TxPayloadAndEnd : Prop :=
  ∀ (s : State) (b : Byte), s.faulted = false → s.txOpen = true → s.txPort = s.grant →
    (s.txrem ≠ 0 → Completes (.txByte b) s { s with
      txout := s.txout ++ [.byte b]
      txsum := s.txsum + b
      txrem := s.txrem - 1 }) ∧
    (s.txrem = 0 → ∃ chk : Byte, s.txsum + chk = 0 ∧ Completes .txEnd s { s with
      txout := s.txout ++ [.byte chk]
      txOpen := false
      txsum := 0 })

/-- TX.FLUSH appends a FLUSH event, whether or not a frame is open (R157). -/
def Obligations.TxFlushAppendsAMarker : Prop :=
  ∀ s : State, s.faulted = false → Completes .txFlush s { s with txout := s.txout ++ [.flush] }

/-- When the encoder's operations fault (R151 to R156; 60_exceptions.md R262, R263). -/
def Obligations.TxFaultConditions : Prop :=
  ∀ (s : State) (b n : Byte), s.faulted = false →
    (s.txOpen = true → Faults (.txCmd b n) s .txSequence ∧ Faults (.txData n) s .txSequence ∧
      Faults (.txErr b n) s .txSequence) ∧
    (s.txOpen = false → Faults (.txErr b 255) s .txRange) ∧
    (s.txOpen = false ∨ s.txPort ≠ s.grant →
      Faults (.txByte b) s .txSequence ∧ Faults .txEnd s .txSequence) ∧
    (s.txOpen = true → s.txPort = s.grant →
      (s.txrem = 0 → Faults (.txByte b) s .txLength) ∧ (s.txrem ≠ 0 → Faults .txEnd s .txLength)) ∧
    (s.datalen = 0 → Faults .txDrain s .datalenUnset) ∧
    (s.datalen ≠ 0 → s.txOpen = true → Faults .txDrain s .txSequence)

/-- TX.DRAIN sends the DATALEN oldest bytes as one data frame and returns 1, or, with fewer queued,
returns 0 and changes nothing else (R156). -/
def Obligations.TxDrainSendsOneRecordOrNothing : Prop :=
  ∀ s : State, s.Wf → s.faulted = false → s.datalen ≠ 0 → s.txOpen = false →
    (s.datalen.toNat ≤ s.occ → ∃ t, Completes .txDrain s t ∧ t = { s with
        tail := BitVec.ofNat 15 ((s.tail.toNat + s.datalen.toNat) % s.cfg.n)
        wroteLast := false
        txout := s.txout ++ (dataFrame ((contents s).take s.datalen.toNat)).map TxEvent.byte
        dout := s.dout.set s.grant 1 } ∧
      contents t = (contents s).drop s.datalen.toNat) ∧
    (s.occ < s.datalen.toNat → Completes .txDrain s { s with dout := s.dout.set s.grant 0 })

/-- Every frame of the wire formats sums to 0 modulo 256, checksum included, and a last byte makes a sum
0 exactly when it is (256 - (S mod 256)) mod 256 (30_encoding.md R97). -/
def Obligations.FramesSumToZero : Prop :=
  (∀ (c : Byte) (data : List Byte),
    sumBytes (commandFrame c data) = 0 ∧ sumBytes (dataFrame data) = 0 ∧
    sumBytes (errorFrame c data) = 0) ∧
  ∀ (bs : List Byte) (chk : Byte), sumBytes (bs ++ [chk]) = 0 ↔
    chk.toNat = (256 - (bs.map BitVec.toNat).sum % 256) % 256

/-- The sequences TX.FRAME, TX.DFRAME and TX.ERROR, issued from one port, emit exactly the wire frames
and close them (R158; 30_encoding.md R90, R93 to R96). -/
def Obligations.TxSequencesEmitWireFrames : Prop :=
  ∀ (s : State) (c : Byte) (data : List Byte) (is : List Instr), s.faulted = false →
    s.txOpen = false →
    (txFrame c data = some is → ∃ t, runOps s is = some t ∧
      t.txout = s.txout ++ (commandFrame c data).map TxEvent.byte ∧ t.txOpen = false ∧
      t.faulted = false) ∧
    (txDFrame data = some is → ∃ t, runOps s is = some t ∧
      t.txout = s.txout ++ (dataFrame data).map TxEvent.byte ∧ t.txOpen = false ∧
      t.faulted = false) ∧
    (txError c data = some is → ∃ t, runOps s is = some t ∧
      t.txout = s.txout ++ (errorFrame c data).map TxEvent.byte ++ [TxEvent.flush] ∧
      t.txOpen = false ∧ t.faulted = false)

/-- The TX stream is append-only: only reset takes anything from it (10_state.md R45). -/
def Obligations.TxStreamOnlyGrows : Prop :=
  ∀ s t : State, s.sched.head? ≠ some .reset → step s = .next t → s.txout <+: t.txout

/-- While a frame is open no operation of another port changes the encoder or sends a byte; at most a
FLUSH enters the stream (R158). -/
def Obligations.ForeignPortCannotTouchAnOpenFrame : Prop :=
  ∀ (i : Instr) (s t : State), s.txOpen = true → s.grant ≠ s.txPort → exec i s = .next t →
    t.txOpen = true ∧ t.txPort = s.txPort ∧ t.txsum = s.txsum ∧ t.txrem = s.txrem ∧
    (t.txout = s.txout ∨ t.txout = s.txout ++ [.flush])

/-! Unit Q -/

/-- Q.PUSH stores its byte at HEAD and nowhere else, and queues it last (43_queue.md R181, R183). -/
def Obligations.QPushAppendsAByte : Prop :=
  ∀ (s : State) (b : Byte), s.Wf → s.faulted = false → PushFits s 1 →
    ∃ t, Completes (.qPush b) s t ∧ t = { s with
        head := BitVec.ofNat 15 ((s.head.toNat + 1) % s.cfg.n)
        wroteLast := true
        recCount := if s.recOpen then s.recCount + 1 else s.recCount
        qbuf := t.qbuf } ∧
      (∀ a, t.qbuf.read a = if a = s.head.toNat then b else s.qbuf.read a) ∧
      contents t = contents s ++ [b]

/-- Q.PUSH16, Q.PUSH32 and Q.PUSH64 push the low 2, 4 or 8 bytes of DIN, least significant first, into
successive indices modulo N (R184 to R186, 20_memory.md R63, R65). -/
def Obligations.QWidePushesAreLittleEndian : Prop :=
  ∀ (s : State) (i : Instr) (k : Nat), s.Wf → s.faulted = false →
    (i = .qPush16 ∧ k = 2) ∨ (i = .qPush32 ∧ k = 4) ∨ (i = .qPush64 ∧ k = 8) → PushFits s k →
    ∃ t, Completes i s t ∧ t = { s with
        head := BitVec.ofNat 15 ((s.head.toNat + k) % s.cfg.n)
        wroteLast := true
        recCount := if s.recOpen then s.recCount + BitVec.ofNat 9 k else s.recCount
        qbuf := t.qbuf } ∧
      (∀ j, j < k → t.qbuf.read ((s.head.toNat + j) % s.cfg.n) =
        (s.din.get s.grant).extractLsb' (8 * j) 8) ∧
      (∀ a, (∀ j, j < k → a ≠ (s.head.toNat + j) % s.cfg.n) → t.qbuf.read a = s.qbuf.read a) ∧
      contents t = contents s ++
        (List.range k).map fun j => (s.din.get s.grant).extractLsb' (8 * j) 8

/-- The checks of a push, in their order, and of a pop (R182, R187; 60_exceptions.md R263). -/
def Obligations.PushAndPopFaultConditions : Prop :=
  ∀ (s : State) (i : Instr) (k : Nat), s.faulted = false → IsPush i k →
    (s.recOpen = true → s.grant ≠ s.recPort → Faults i s .recSequence) ∧
    (s.recOpen = true → s.grant = s.recPort → s.datalen.toNat < s.recCount.toNat + k →
      Faults i s .recLength) ∧
    ((s.recOpen = true → s.grant = s.recPort ∧ s.recCount.toNat + k ≤ s.datalen.toNat) →
      s.space < k → Faults i s .qOverflow) ∧
    (s.occ = 0 → Faults .qPop s .qUnderflow)

/-- Q.POP takes the oldest byte into DOUT, zero-extended, and stores nothing (R187, R188). -/
def Obligations.QPopTakesTheOldestByte : Prop :=
  ∀ s : State, s.Wf → s.faulted = false → 0 < s.occ →
    ∃ t, Completes .qPop s t ∧ t = { s with
        tail := BitVec.ofNat 15 ((s.tail.toNat + 1) % s.cfg.n)
        wroteLast := false
        dout := s.dout.set s.grant ((s.qbuf.read s.tail.toNat).zeroExtend 64) } ∧
      contents s = s.qbuf.read s.tail.toNat :: contents t

/-- Q.SPACE and Q.AVAIL report the free bytes and whether a byte is queued; the queue is never reported
both empty and full (R189, R190, R197; 10_state.md R27). -/
def Obligations.QSpaceAndAvailReportTheQueue : Prop :=
  ∀ s : State, s.Wf → s.faulted = false →
    ∃ d e : Data, Completes .qSpace s { s with dout := s.dout.set s.grant d } ∧
      Completes .qAvail s { s with dout := s.dout.set s.grant e } ∧
      d.toNat + (contents s).length = s.cfg.n ∧ e = (if contents s = [] then 0 else 1) ∧
      (s.head = s.tail → d.toNat = if s.wroteLast then 0 else s.cfg.n) ∧ ¬(e = 0 ∧ d = 0)

/-- With no record open Q.CLEAR empties the queue and the accumulator and leaves every byte of QBUF, and
Q.SETDLEN sets DATALEN; neither changes anything else (R191, R196). -/
def Obligations.QClearAndSetDLen : Prop :=
  ∀ (s : State) (n : Byte), s.faulted = false → s.recOpen = false →
    (∃ t, Completes .qClear s t ∧
      t = { s with head := 0, tail := 0, wroteLast := false, bitacc := 0, bitcnt := 0 } ∧
      contents t = []) ∧
    Completes (.qSetDLen n) s { s with datalen := n }

/-- Q.PUSHBIT puts A[0] at position BITCNT of the accumulator, the other bits unchanged; the eighth bit
pushes the updated byte (R192). -/
def Obligations.QPushBitPacksLsbFirst : Prop :=
  ∀ (s : State) (a : Byte), s.Wf → s.faulted = false →
    (s.bitcnt ≠ 7 → (s.recOpen = true → s.grant = s.recPort) →
      ∃ acc : Byte, Completes (.qPushBit a) s { s with bitacc := acc, bitcnt := s.bitcnt + 1 } ∧
        ∀ j, j < 8 → acc.getLsbD j =
          if j = s.bitcnt.toNat then a.getLsbD 0 else s.bitacc.getLsbD j) ∧
    (s.bitcnt = 7 → PushFits s 1 →
      ∃ t, Completes (.qPushBit a) s t ∧ t = { s with
          head := BitVec.ofNat 15 ((s.head.toNat + 1) % s.cfg.n)
          wroteLast := true
          recCount := if s.recOpen then s.recCount + 1 else s.recCount
          qbuf := t.qbuf
          bitacc := t.bitacc
          bitcnt := 0 } ∧
        (∀ j, j < 8 → t.bitacc.getLsbD j = if j = 7 then a.getLsbD 0 else s.bitacc.getLsbD j) ∧
        (∀ x, t.qbuf.read x = if x = s.head.toNat then t.bitacc else s.qbuf.read x) ∧
        contents t = contents s ++ [t.bitacc])

/-- Q.FLUSHBITS pushes the accumulator's byte if bits are pending, and nothing otherwise (R193). -/
def Obligations.QFlushBitsPushesAPartialByte : Prop :=
  ∀ s : State, s.Wf → s.faulted = false →
    (s.bitcnt = 0 → (s.recOpen = true → s.grant = s.recPort) → Completes .qFlushBits s s) ∧
    (s.bitcnt ≠ 0 → PushFits s 1 →
      ∃ t, Completes .qFlushBits s t ∧ t = { s with
          head := BitVec.ofNat 15 ((s.head.toNat + 1) % s.cfg.n)
          wroteLast := true
          recCount := if s.recOpen then s.recCount + 1 else s.recCount
          qbuf := t.qbuf
          bitcnt := 0 } ∧
        (∀ x, t.qbuf.read x = if x = s.head.toNat then s.bitacc else s.qbuf.read x) ∧
        contents t = contents s ++ [s.bitacc])

/-- Q.RBEGIN opens a record for its port if it fits, exactly filling included, and otherwise drops the
sample with no other change (R194, R198). -/
def Obligations.QRBeginOpensOrDrops : Prop :=
  ∀ s : State, s.faulted = false → s.datalen ≠ 0 → s.recOpen = false → s.bitcnt = 0 →
    (s.datalen.toNat ≤ s.space → Completes .qRBegin s { s with
      recOpen := true
      recPort := s.grant
      recCount := 0
      dout := s.dout.set s.grant 1 }) ∧
    (s.space < s.datalen.toNat → Completes .qRBegin s { s with dout := s.dout.set s.grant 0 })

/-- Q.REND closes a record of exactly DATALEN bytes, after pushing the pending partial byte (R195). -/
def Obligations.QREndClosesAnExactRecord : Prop :=
  ∀ s : State, s.Wf → s.faulted = false → s.recOpen = true → s.grant = s.recPort →
    (s.bitcnt = 0 → s.recCount.toNat = s.datalen.toNat →
      Completes .qREnd s { s with recOpen := false, recCount := 0 }) ∧
    (s.bitcnt ≠ 0 → s.recCount.toNat + 1 = s.datalen.toNat →
      ∃ t, Completes .qREnd s t ∧ t = { s with
          head := BitVec.ofNat 15 ((s.head.toNat + 1) % s.cfg.n)
          wroteLast := true
          qbuf := t.qbuf
          bitcnt := 0
          recOpen := false
          recCount := 0 } ∧
        (∀ x, t.qbuf.read x = if x = s.head.toNat then s.bitacc else s.qbuf.read x) ∧
        contents t = contents s ++ [s.bitacc])

/-- When the record bracket and the bit packer fault (R191 to R196; 60_exceptions.md R262, R263). -/
def Obligations.RecordAndBitFaultConditions : Prop :=
  ∀ (s : State) (a n : Byte), s.faulted = false →
    (s.recOpen = true → Faults .qClear s .recSequence ∧ Faults (.qSetDLen n) s .recSequence) ∧
    (s.datalen = 0 → Faults .qRBegin s .datalenUnset) ∧
    (s.datalen ≠ 0 → s.recOpen = true ∨ s.bitcnt ≠ 0 → Faults .qRBegin s .recSequence) ∧
    (s.recOpen = false ∨ s.grant ≠ s.recPort → Faults .qREnd s .recSequence) ∧
    (s.recOpen = true → s.grant = s.recPort →
      s.recCount.toNat + (if s.bitcnt = 0 then 0 else 1) ≠ s.datalen.toNat →
      Faults .qREnd s .recLength) ∧
    (s.recOpen = true → s.grant ≠ s.recPort →
      Faults (.qPushBit a) s .recSequence ∧ Faults .qFlushBits s .recSequence) ∧
    (s.recOpen = true → s.grant = s.recPort → s.datalen.toNat < s.recCount.toNat + 1 →
      (s.bitcnt = 7 → Faults (.qPushBit a) s .recLength) ∧
      (s.bitcnt ≠ 0 → Faults .qFlushBits s .recLength)) ∧
    ((s.recOpen = true → s.grant = s.recPort ∧ s.recCount.toNat + 1 ≤ s.datalen.toNat) →
      s.space = 0 →
      (s.bitcnt = 7 → Faults (.qPushBit a) s .qOverflow) ∧
      (s.bitcnt ≠ 0 → Faults .qFlushBits s .qOverflow))

/-- The bytes that any number of digital bits and a flush queue: eight bits a byte, the first at bit 0;
the bits a partial byte lacks are those of the byte before it, or of the accumulator (R199). -/
def Obligations.DigitalBitsPackIntoBytes : Prop :=
  ∀ (s : State) (ds : List Bool), s.Wf → s.faulted = false → s.bitcnt = 0 →
    PushFits s ((ds.length + 7) / 8) →
    ∃ (t : State) (bs : List Byte), runOps s (qDigital ds ++ [.qFlushBits]) = some t ∧
      t.faulted = false ∧ t.bitcnt = 0 ∧ contents t = contents s ++ bs ∧
      bs.length = (ds.length + 7) / 8 ∧
      ∀ q j (hq : q < bs.length), j < 8 → (bs[q]).getLsbD j =
        if 8 * q + j < ds.length then ds.getD (8 * q + j) false
        else if q = 0 then s.bitacc.getLsbD j else ds.getD (8 * (q - 1) + j) false

/-- While a record is open no operation of another port changes the queue's input side, the accumulator
or the record's registers (R182, R191 to R196). -/
def Obligations.ForeignPortCannotTouchAnOpenRecord : Prop :=
  ∀ (i : Instr) (s t : State), s.recOpen = true → s.grant ≠ s.recPort → exec i s = .next t →
    t.head = s.head ∧ t.qbuf = s.qbuf ∧ t.bitacc = s.bitacc ∧ t.bitcnt = s.bitcnt ∧
    t.recOpen = true ∧ t.recPort = s.recPort ∧ t.recCount = s.recCount ∧ t.datalen = s.datalen

/-- Every operation but Q.CLEAR leaves the queued bytes in order: it takes bytes from the front or puts
bytes at the end, never both (20_memory.md R71). -/
def Obligations.TheQueueIsFifo : Prop :=
  ∀ (i : Instr) (s t : State), s.Wf → i ≠ .qClear → exec i s = .next t →
    (∃ k, k ≤ (contents s).length ∧ contents t = (contents s).drop k) ∨
    ∃ bs, contents t = contents s ++ bs

/-! Unit T and the counter -/

/-- T.START zeroes the count and arms the counter and its interrupt (44_timestamp.md R222). -/
def Obligations.TStartArmsTheCounter : Prop :=
  ∀ s : State, s.faulted = false → s.nowPhase = .idle → Completes .tStart s { s with
    tally := 0
    cnt := 0
    ovf := false
    ovfLost := false
    chraw := 0xFFFFFFFFFFFFFFFF#64
    run := true
    ovfie := true }

/-- T.NOW: one step with TSVAR = CHAINED (R223), the three steps of R224 with NARROW, the last of which
completes it, faulted or not. -/
def Obligations.TNowReadsTheTime : Prop :=
  ∀ s : State,
    (s.cfg.tsvar = .chained → s.faulted = false →
      Completes .tNow s { s with dout := s.dout.set s.grant (~~~s.chraw) }) ∧
    (s.cfg.tsvar = .narrow → s.nowPhase = .idle → s.faulted = false →
      exec .tNow s = .next (({ s with
        nowPre := s.ovf
        nowPort := s.grant
        nowPhase := .ph1 } : State).wait s.grant)) ∧
    (s.cfg.tsvar = .narrow → s.nowPhase = .ph1 → s.nowPort = s.grant →
      exec .tNow s =
        .next (({ s with nowV := s.cnt, nowPhase := .ph2 } : State).wait s.grant)) ∧
    (s.cfg.tsvar = .narrow → s.nowPhase = .ph2 → s.nowPort = s.grant →
      (s.nowPre = true ∨ (s.ovf = true ∧ s.nowV.toNat < 2 ^ (s.cfg.w - 1)) →
        ∃ tally : Data, tally = BitVec.ofNat 64 ((s.tally.toNat + 1) % 2 ^ (64 - s.cfg.w)) ∧
          Completes .tNow s { s with
            tally := tally
            ovf := false
            dout := s.dout.set s.grant (tally <<< s.cfg.w ||| s.nowV)
            nowPhase := .idle }) ∧
      (s.nowPre = false → ¬(s.ovf = true ∧ s.nowV.toNat < 2 ^ (s.cfg.w - 1)) →
        Completes .tNow s { s with
          dout := s.dout.set s.grant (s.tally <<< s.cfg.w ||| s.nowV)
          nowPhase := .idle }))

/-- The result of T.NOW holds TALLY, after any increment, in bits 63 to W and the counter value sampled
at PH2 in bits W-1 to 0, so that `|` equals `+` (R225). -/
def Obligations.TNowComposesTallyAndCount : Prop :=
  ∀ s : State, s.Wf → s.cfg.tsvar = .narrow → s.nowPhase = .ph2 → s.nowPort = s.grant →
    ∃ t : State, Completes .tNow s t ∧ t.dout.get s.grant = t.tally <<< s.cfg.w ||| s.nowV ∧
      (∀ j, j < s.cfg.w → (t.dout.get s.grant).getLsbD j = s.nowV.getLsbD j) ∧
      (∀ j, s.cfg.w ≤ j → j < 64 →
        (t.dout.get s.grant).getLsbD j = t.tally.getLsbD (j - s.cfg.w)) ∧
      (t.dout.get s.grant).toNat = t.tally.toNat * 2 ^ s.cfg.w + s.nowV.toNat

/-- T.OVFSVC counts an overflow exactly when OVF is set with TSVAR = NARROW (R227). -/
def Obligations.TOvfSvcCountsOnce : Prop :=
  ∀ s : State, s.faulted = false → s.nowPhase = .idle →
    (s.cfg.tsvar = .narrow → s.ovf = true → Completes .tOvfSvc s { s with
      tally := BitVec.ofNat 64 ((s.tally.toNat + 1) % 2 ^ (64 - s.cfg.w))
      ovf := false }) ∧
    (s.ovf = false ∨ s.cfg.tsvar = .chained → Completes .tOvfSvc s s)

/-- A TICK: up by one or the wrap that sets OVF (R231), down by one on the chained counter (R232),
nothing while stopped (R233). -/
def Obligations.TickStepsTheCounter : Prop :=
  ∀ (s : State) (rest : List Event), s.cfg.Legal → s.sched = .tick :: rest →
    (s.run = false → step s = .next { s with sched := rest }) ∧
    (s.run = true → s.cfg.tsvar = .chained →
      step s = .next { s with sched := rest, chraw := s.chraw - 1 }) ∧
    (s.run = true → s.cfg.tsvar = .narrow → s.cnt.toNat = 2 ^ s.cfg.w - 1 →
      step s = .next { s with
        sched := rest
        cnt := 0
        ovfLost := if s.ovf then true else s.ovfLost
        ovf := true }) ∧
    (s.run = true → s.cfg.tsvar = .narrow → s.cnt.toNat < 2 ^ s.cfg.w - 1 →
      step s = .next { s with sched := rest, cnt := s.cnt + 1 })

/-- E = ((TALLY + OVF) · 2^W + CNT) mod 2^64 counts the ticks: T.START zeroes it, a tick that loses no
overflow (it does not wrap while OVF is set) adds 1, a tick while stopped adds nothing, and no other step
but reset changes it: not the steps of T.NOW, nor a T.START that holds or is consumed after a fault
(R228). -/
def Obligations.TimeValueCountsTicks : Prop :=
  ∀ (s t : State) (e : Event) (rest : List Event), s.Wf → s.cfg.tsvar = .narrow →
    s.sched = e :: rest → step s = .next t →
    (e = .tick → s.run = true → ¬(s.ovf = true ∧ s.cnt.toNat = 2 ^ s.cfg.w - 1) →
      timeValue t = (timeValue s + 1) % 2 ^ 64) ∧
    (e = .tick → s.run = false → timeValue t = timeValue s) ∧
    (∀ p, e = .turn p → s.currentOp p = some (encode .tStart) → s.faulted = false →
      s.nowPhase = .idle → timeValue t = 0) ∧
    (e ≠ .tick → e ≠ .reset → (∀ p, e = .turn p → s.currentOp p = some (encode .tStart) →
      s.faulted = true ∨ s.nowPhase ≠ .idle) → timeValue t = timeValue s)

/-- The reconciliation theorem (R228): with at most 2^(W-1) ticks between PH1 and PH3 of a T.NOW and no
overflow lost, the result is the true count at its PH2 step, whatever else runs in between. -/
def Obligations.TNowResultIsTheTrueCount : Prop :=
  ∀ (p : Port) (a b : Nat) (s0 s1 s2 s3 s4 s5 : State), s0.Wf → s0.cfg.tsvar = .narrow →
    s0.faulted = false → s0.nowPhase = .idle → s0.sched.head? = some (.turn p) →
    s0.currentOp p = some (encode .tNow) →
    step s0 = .next s1 → WindowRun p a s1 s2 →
    s2.sched.head? = some (.turn p) → step s2 = .next s3 → WindowRun p b s3 s4 →
    s4.sched.head? = some (.turn p) → step s4 = .next s5 →
    a + b ≤ 2 ^ (s0.cfg.w - 1) → s4.ovfLost = false →
    (s5.dout.get p).toNat = timeValue s2 ∧ s5.nowPhase = .idle ∧
      s5.opIndex.get p = s0.opIndex.get p + 1

/-- IRQ_OVF rises with a wrapping tick once T.START enabled it, falls with T.START, T.OVFSVC and a T.NOW
whose PH3 counts the overflow, never rises with TSVAR = CHAINED; IRQ_FAULT rises with the first fault, of
an operation or of an illegal word, and stays until reset; reset lowers both (10_state.md R47;
60_exceptions.md R265, R266; 70_reset_and_hazards.md R290). -/
def Obligations.InterruptLinesFollowTheFlags : Prop :=
  ∀ s t : State, s.Wf →
    (s.cfg.tsvar = .chained → s.irqOvf = false) ∧
    (s.cfg.tsvar = .narrow → s.run = true → s.cnt.toNat = 2 ^ s.cfg.w - 1 →
      s.sched.head? = some .tick → step s = .next t → t.irqOvf = true) ∧
    (s.faulted = false → s.nowPhase = .idle → exec .tStart s = .next t ∨ exec .tOvfSvc s = .next t →
      t.irqOvf = false) ∧
    (s.cfg.tsvar = .narrow → s.nowPhase = .ph2 → s.nowPort = s.grant →
      s.nowPre = true ∨ (s.ovf = true ∧ s.nowV.toNat < 2 ^ (s.cfg.w - 1)) →
      exec .tNow s = .next t → t.irqOvf = false) ∧
    (∀ i c, s.faulted = false → Faults i s c → exec i s = .next t → t.irqFault = true) ∧
    (∀ p w e, s.faulted = false → s.sched.head? = some (.turn p) → s.currentOp p = some w →
      decode w = .error e → step s = .next t → t.irqFault = true) ∧
    (s.irqFault = true → s.sched.head? ≠ some .reset → step s = .next t → t.irqFault = true) ∧
    (s.sched.head? = some .reset → step s = .next t → t.irqOvf = false ∧ t.irqFault = false)
end

