-- ==== Sys2Proof/Laws/Decode.lean ====
section
/-! SUPPORT. The fields of an operation word and the word of its fields. -/

namespace Sys2Proof

@[simp] theorem unitOf_packWord (u f : BitVec 4) (a b z : Byte) : unitOf (packWord u f a b z) = u := by
  apply BitVec.eq_of_getLsbD_eq
  intro i hi
  simp only [unitOf, packWord, BitVec.getLsbD_extractLsb', BitVec.getLsbD_append]
  simp only [hi, decide_true, Bool.true_and]
  rw [if_neg (by omega), if_neg (by omega), if_neg (by omega), if_neg (by omega)]
  congr 1
  omega

@[simp] theorem fnOf_packWord (u f : BitVec 4) (a b z : Byte) : fnOf (packWord u f a b z) = f := by
  apply BitVec.eq_of_getLsbD_eq
  intro i hi
  simp only [fnOf, packWord, BitVec.getLsbD_extractLsb', BitVec.getLsbD_append]
  simp only [hi, decide_true, Bool.true_and]
  rw [if_neg (by omega), if_neg (by omega), if_neg (by omega), if_pos (by omega)]
  congr 1
  omega

@[simp] theorem fieldA_packWord (u f : BitVec 4) (a b z : Byte) : fieldA (packWord u f a b z) = a := by
  apply BitVec.eq_of_getLsbD_eq
  intro i hi
  simp only [fieldA, packWord, BitVec.getLsbD_extractLsb', BitVec.getLsbD_append]
  simp only [hi, decide_true, Bool.true_and]
  rw [if_neg (by omega), if_neg (by omega), if_pos (by omega)]
  congr 1
  omega

@[simp] theorem fieldB_packWord (u f : BitVec 4) (a b z : Byte) : fieldB (packWord u f a b z) = b := by
  apply BitVec.eq_of_getLsbD_eq
  intro i hi
  simp only [fieldB, packWord, BitVec.getLsbD_extractLsb', BitVec.getLsbD_append]
  simp only [hi, decide_true, Bool.true_and]
  rw [if_neg (by omega), if_pos (by omega)]
  congr 1
  omega

@[simp] theorem fieldZ_packWord (u f : BitVec 4) (a b z : Byte) : fieldZ (packWord u f a b z) = z := by
  apply BitVec.eq_of_getLsbD_eq
  intro i hi
  simp only [fieldZ, packWord, BitVec.getLsbD_extractLsb', BitVec.getLsbD_append]
  simp [hi]

/-- A word is the word of its fields: no bit is left out (30_encoding.md R80). -/
theorem packWord_fields (w : OpWord) :
    packWord (unitOf w) (fnOf w) (fieldA w) (fieldB w) (fieldZ w) = w := by
  apply BitVec.eq_of_getLsbD_eq
  intro i hi
  simp only [packWord, unitOf, fnOf, fieldA, fieldB, fieldZ, BitVec.getLsbD_append,
    BitVec.getLsbD_extractLsb']
  by_cases h1 : i < 8
  · simp [h1]
  · by_cases h2 : i - 8 < 8
    · simp [h1, h2, show 8 + (i - 8) = i by omega]
    · by_cases h3 : i - 8 - 8 < 8
      · simp [h1, h2, h3, show 16 + (i - 8 - 8) = i by omega]
      · by_cases h4 : i - 8 - 8 - 8 < 4
        · simp [h1, h2, h3, h4, show 24 + (i - 8 - 8 - 8) = i by omega]
        · simp [h1, h2, h3, h4, show 28 + (i - 8 - 8 - 8 - 4) = i by omega]
          omega

/-- No two rows of the operation map have the same UNIT and FN (R86). -/
theorem opMap_pairwise :
    opMap.Pairwise (fun r r' => ¬(r.unit = r'.unit ∧ r.fn = r'.fn)) := by
  simp only [opMap]
  decide

/-- A row found has the UNIT and FN looked up and stands in the map. -/
theorem findRow_some (u f : BitVec 4) (r : OpRow) (h : findRow u f = some r) :
    r ∈ opMap ∧ r.unit = u ∧ r.fn = f := by
  refine ⟨List.mem_of_find?_eq_some h, ?_⟩
  have := List.find?_some h
  simpa using this

/-- A word decodes exactly when its row is found and the row's format admits its fields. -/
theorem decode_ok_iff (w : OpWord) (i : Instr) :
    decode w = .ok i ↔
      ∃ r, findRow (unitOf w) (fnOf w) = some r ∧
        r.format.admits (fieldA w) (fieldB w) (fieldZ w) = true ∧
        r.make (fieldA w) (fieldB w) = i := by
  unfold decode
  cases h : findRow (unitOf w) (fnOf w) with
  | none => simp; split <;> simp
  | some r =>
    simp only [Option.some.injEq, exists_eq_left']
    split
    · rename_i ha
      simp [ha]
    · rename_i ha
      simp [ha]

end Sys2Proof
end

