-- ==== Sys2Proof/Laws/Memory.lean ====
section
/-! SUPPORT. The byte spaces: reading after writing, and the canonical form that every write keeps. -/

namespace Sys2Proof.Machine

@[simp] theorem Memory.wf_nil : Memory.wf [] = true := rfl

@[simp] theorem Memory.read_nil (a : Nat) : Memory.read [] a = unwrittenByte := rfl

theorem Memory.wf_cons (c : Host.Cell) (m : Memory) :
    Memory.wf (c :: m) = true ↔
      c.2 ≠ unwrittenByte ∧ (∀ d ∈ m, c.1 < d.1) ∧ Memory.wf m = true := by
  obtain ⟨a, b⟩ := c
  simp [Memory.wf, and_assoc]

theorem Memory.read_cons (c : Host.Cell) (m : Memory) (x : Nat) :
    Memory.read (c :: m) x = if x = c.1 then c.2 else Memory.read m x := rfl

/-- A byte below every listed index is unlisted. -/
theorem Memory.read_below (m : Memory) (a : Nat) (h : ∀ d ∈ m, a < d.1) :
    Memory.read m a = unwrittenByte := by
  induction m with
  | nil => rfl
  | cons c m ih =>
    rw [Memory.read_cons, if_neg (Nat.ne_of_lt (h c (by simp)))]
    exact ih fun d hd => h d (by simp [hd])

/-- Every index a write lists was listed or is the written one. -/
theorem Memory.mem_write (m : Memory) (a : Nat) (b : Byte) (d : Host.Cell)
    (h : d ∈ Memory.write m a b) : d ∈ m ∨ d = (a, b) := by
  induction m with
  | nil =>
    simp only [Memory.write] at h
    split at h <;> simp_all
  | cons c m ih =>
    obtain ⟨a', b'⟩ := c
    simp only [Memory.write] at h
    split at h
    · split at h <;> simp_all; tauto
    · split at h
      · split at h <;> simp_all; tauto
      · rcases List.mem_cons.mp h with rfl | h
        · simp
        · rcases ih h with h | h <;> simp [h]

/-- A write keeps the canonical form. -/
theorem Memory.write_wf (m : Memory) (a : Nat) (b : Byte) (h : m.wf = true) :
    (Memory.write m a b).wf = true := by
  induction m with
  | nil =>
    simp only [Memory.write]
    split
    · rfl
    · rename_i hb
      exact (Memory.wf_cons _ _).mpr ⟨hb, by simp, rfl⟩
  | cons c m ih =>
    obtain ⟨a', b'⟩ := c
    have hc := (Memory.wf_cons _ _).mp h
    simp only [Memory.write]
    split
    · rename_i hlt
      split
      · exact h
      · rename_i hb
        refine (Memory.wf_cons _ _).mpr ⟨hb, ?_, h⟩
        intro d hd
        rcases List.mem_cons.mp hd with rfl | hd
        · exact hlt
        · exact Nat.lt_trans hlt (hc.2.1 d hd)
    · rename_i hge
      split
      · rename_i heq
        subst heq
        split
        · exact hc.2.2
        · rename_i hb
          exact (Memory.wf_cons _ _).mpr ⟨hb, hc.2.1, hc.2.2⟩
      · rename_i hne
        refine (Memory.wf_cons _ _).mpr ⟨hc.1, ?_, ih hc.2.2⟩
        intro d hd
        rcases Memory.mem_write m a b d hd with hd | rfl
        · exact hc.2.1 d hd
        · show a' < a
          omega

/-- Reading after a write: the byte written at its index, what stood there at every other. -/
theorem Memory.read_write (m : Memory) (a : Nat) (b : Byte) (x : Nat) (h : m.wf = true) :
    (Memory.write m a b).read x = if x = a then b else m.read x := by
  induction m with
  | nil =>
    simp only [Memory.write]
    split
    · rename_i hb
      subst hb
      simp
    · simp [Memory.read_cons]
  | cons c m ih =>
    obtain ⟨a', b'⟩ := c
    have hc := (Memory.wf_cons _ _).mp h
    simp only [Memory.write]
    split
    · rename_i hlt
      split
      · rename_i hb
        subst hb
        split
        · rename_i hx
          subst hx
          rw [Memory.read_cons, if_neg (Nat.ne_of_lt hlt)]
          exact Memory.read_below m x fun d hd => Nat.lt_trans hlt (hc.2.1 d hd)
        · rfl
      · rw [Memory.read_cons]
    · split
      · rename_i heq
        subst heq
        split
        · rename_i hb
          subst hb
          rw [Memory.read_cons]
          split
          · rename_i hx
            subst hx
            exact Memory.read_below m x hc.2.1
          · rfl
        · rw [Memory.read_cons, Memory.read_cons]
          split <;> rfl
      · rename_i hne
        rw [Memory.read_cons, Memory.read_cons, ih hc.2.2]
        split
        · rename_i hx
          subst hx
          rw [if_neg fun e => hne e.symm]
        · rfl

/-- A write at an index the space has lists no index it does not have. -/
theorem Memory.write_bounded (m : Memory) (a : Nat) (b : Byte) (n : Nat) (ha : a < n)
    (h : m.all (fun c => decide (c.1 < n)) = true) :
    (Memory.write m a b).all (fun c => decide (c.1 < n)) = true := by
  rw [List.all_eq_true] at h ⊢
  intro d hd
  rcases Memory.mem_write m a b d hd with hd | rfl
  · exact h d hd
  · exact decide_eq_true ha

/-- Two canonical contents that read alike are the same list. -/
theorem Memory.ext_read (m m' : Memory) (h : m.wf = true) (h' : m'.wf = true)
    (e : ∀ a, m.read a = m'.read a) : m = m' := by
  induction m generalizing m' with
  | nil =>
    cases m' with
    | nil => rfl
    | cons c' m' =>
      have hc := (Memory.wf_cons _ _).mp h'
      have := e c'.1
      rw [Memory.read_cons, if_pos rfl] at this
      exact absurd this.symm hc.1
  | cons c m ih =>
    have hc := (Memory.wf_cons _ _).mp h
    cases m' with
    | nil =>
      have := e c.1
      rw [Memory.read_cons, if_pos rfl] at this
      exact absurd this hc.1
    | cons c' m' =>
      have hc' := (Memory.wf_cons _ _).mp h'
      have h1 := e c.1
      have h2 := e c'.1
      rw [Memory.read_cons, Memory.read_cons, if_pos rfl] at h1
      rw [Memory.read_cons, Memory.read_cons, if_pos rfl] at h2
      have hkey : c.1 = c'.1 := by
        rcases Nat.lt_trichotomy c.1 c'.1 with hl | hl | hl
        · rw [if_neg (Nat.ne_of_lt hl), Memory.read_below m' c.1
            fun d hd => Nat.lt_trans hl (hc'.2.1 d hd)] at h1
          exact absurd h1 hc.1
        · exact hl
        · rw [if_neg (Nat.ne_of_lt hl), Memory.read_below m c'.1
            fun d hd => Nat.lt_trans hl (hc.2.1 d hd)] at h2
          exact absurd h2.symm hc'.1
      rw [if_pos hkey] at h1
      have hcell : c = c' := Prod.ext hkey h1
      subst hcell
      congr 1
      refine ih m' hc.2.2 hc'.2.2 fun a => ?_
      have ha := e a
      rw [Memory.read_cons, Memory.read_cons] at ha
      by_cases hx : a = c.1
      · subst hx
        rw [Memory.read_below m _ hc.2.1, Memory.read_below m' _ hc'.2.1]
      · rwa [if_neg hx, if_neg hx] at ha

end Sys2Proof.Machine
end

