-- ==== Sys2Proof/Laws/State.lean ====
section
/-! SUPPORT. The small lemmas of the state's named updates: one per field per update, and what reading a
port's value after writing one gives. -/

namespace Sys2Proof.Machine

/-! One value per port -/

@[simp] theorem PerPort.get_set_same {α : Type} (r : PerPort α) (p : Port) (v : α) :
    (r.set p v).get p = v := by cases p <;> rfl

theorem PerPort.get_set_other {α : Type} (r : PerPort α) (p q : Port) (v : α) (h : q ≠ p) :
    (r.set p v).get q = r.get q := by
  cases p <;> cases q <;> first | rfl | exact absurd rfl h

theorem PerPort.get_set {α : Type} (r : PerPort α) (p q : Port) (v : α) :
    (r.set p v).get q = if q = p then v else r.get q := by
  cases p <;> cases q <;> rfl

@[simp] theorem PerPort.set_set {α : Type} (r : PerPort α) (p : Port) (v w : α) :
    (r.set p v).set p w = r.set p w := by cases p <;> rfl

@[simp] theorem PerPort.set_get {α : Type} (r : PerPort α) (p : Port) : r.set p (r.get p) = r := by
  cases p <;> rfl

theorem PerPort.ext_get {α : Type} (r r' : PerPort α) (h : ∀ p, r.get p = r'.get p) : r = r' := by
  cases r; cases r'
  have h0 := h .p0
  have h1 := h .p1
  have h2 := h .p2
  have h3 := h .p3
  simp only [PerPort.get] at h0 h1 h2 h3
  subst h0 h1 h2 h3
  rfl

theorem Port.bits_injective (p q : Port) (h : p.bits = q.bits) : p = q := by
  cases p <;> cases q <;> first | rfl | exact absurd h (by decide)

/-! `setDout` -/

@[simp] theorem State.setDout_cfg (s : State) (v : Data) : (s.setDout v).cfg = s.cfg := rfl
@[simp] theorem State.setDout_din (s : State) (v : Data) : (s.setDout v).din = s.din := rfl
@[simp] theorem State.setDout_dout (s : State) (v : Data) :
    (s.setDout v).dout = s.dout.set s.grant v := rfl
@[simp] theorem State.setDout_head (s : State) (v : Data) : (s.setDout v).head = s.head := rfl
@[simp] theorem State.setDout_tail (s : State) (v : Data) : (s.setDout v).tail = s.tail := rfl
@[simp] theorem State.setDout_wroteLast (s : State) (v : Data) : (s.setDout v).wroteLast = s.wroteLast := rfl
@[simp] theorem State.setDout_bitacc (s : State) (v : Data) : (s.setDout v).bitacc = s.bitacc := rfl
@[simp] theorem State.setDout_bitcnt (s : State) (v : Data) : (s.setDout v).bitcnt = s.bitcnt := rfl
@[simp] theorem State.setDout_qbuf (s : State) (v : Data) : (s.setDout v).qbuf = s.qbuf := rfl
@[simp] theorem State.setDout_recOpen (s : State) (v : Data) : (s.setDout v).recOpen = s.recOpen := rfl
@[simp] theorem State.setDout_recPort (s : State) (v : Data) : (s.setDout v).recPort = s.recPort := rfl
@[simp] theorem State.setDout_recCount (s : State) (v : Data) : (s.setDout v).recCount = s.recCount := rfl
@[simp] theorem State.setDout_datalen (s : State) (v : Data) : (s.setDout v).datalen = s.datalen := rfl
@[simp] theorem State.setDout_tally (s : State) (v : Data) : (s.setDout v).tally = s.tally := rfl
@[simp] theorem State.setDout_cnt (s : State) (v : Data) : (s.setDout v).cnt = s.cnt := rfl
@[simp] theorem State.setDout_ovf (s : State) (v : Data) : (s.setDout v).ovf = s.ovf := rfl
@[simp] theorem State.setDout_ovfLost (s : State) (v : Data) : (s.setDout v).ovfLost = s.ovfLost := rfl
@[simp] theorem State.setDout_run (s : State) (v : Data) : (s.setDout v).run = s.run := rfl
@[simp] theorem State.setDout_ovfie (s : State) (v : Data) : (s.setDout v).ovfie = s.ovfie := rfl
@[simp] theorem State.setDout_nowPhase (s : State) (v : Data) : (s.setDout v).nowPhase = s.nowPhase := rfl
@[simp] theorem State.setDout_nowPort (s : State) (v : Data) : (s.setDout v).nowPort = s.nowPort := rfl
@[simp] theorem State.setDout_nowPre (s : State) (v : Data) : (s.setDout v).nowPre = s.nowPre := rfl
@[simp] theorem State.setDout_nowV (s : State) (v : Data) : (s.setDout v).nowV = s.nowV := rfl
@[simp] theorem State.setDout_chraw (s : State) (v : Data) : (s.setDout v).chraw = s.chraw := rfl
@[simp] theorem State.setDout_txOpen (s : State) (v : Data) : (s.setDout v).txOpen = s.txOpen := rfl
@[simp] theorem State.setDout_txPort (s : State) (v : Data) : (s.setDout v).txPort = s.txPort := rfl
@[simp] theorem State.setDout_txsum (s : State) (v : Data) : (s.setDout v).txsum = s.txsum := rfl
@[simp] theorem State.setDout_txrem (s : State) (v : Data) : (s.setDout v).txrem = s.txrem := rfl
@[simp] theorem State.setDout_txout (s : State) (v : Data) : (s.setDout v).txout = s.txout := rfl
@[simp] theorem State.setDout_rxst (s : State) (v : Data) : (s.setDout v).rxst = s.rxst := rfl
@[simp] theorem State.setDout_rxsum (s : State) (v : Data) : (s.setDout v).rxsum = s.rxsum := rfl
@[simp] theorem State.setDout_rxcmdr (s : State) (v : Data) : (s.setDout v).rxcmdr = s.rxcmdr := rfl
@[simp] theorem State.setDout_rxlenr (s : State) (v : Data) : (s.setDout v).rxlenr = s.rxlenr := rfl
@[simp] theorem State.setDout_rxk (s : State) (v : Data) : (s.setDout v).rxk = s.rxk := rfl
@[simp] theorem State.setDout_rxValid (s : State) (v : Data) : (s.setDout v).rxValid = s.rxValid := rfl
@[simp] theorem State.setDout_rxbuf (s : State) (v : Data) : (s.setDout v).rxbuf = s.rxbuf := rfl
@[simp] theorem State.setDout_faulted (s : State) (v : Data) : (s.setDout v).faulted = s.faulted := rfl
@[simp] theorem State.setDout_faultCode (s : State) (v : Data) : (s.setDout v).faultCode = s.faultCode := rfl
@[simp] theorem State.setDout_faultOp (s : State) (v : Data) : (s.setDout v).faultOp = s.faultOp := rfl
@[simp] theorem State.setDout_faultPort (s : State) (v : Data) : (s.setDout v).faultPort = s.faultPort := rfl
@[simp] theorem State.setDout_ops (s : State) (v : Data) : (s.setDout v).ops = s.ops := rfl
@[simp] theorem State.setDout_opIndex (s : State) (v : Data) : (s.setDout v).opIndex = s.opIndex := rfl
@[simp] theorem State.setDout_outstanding (s : State) (v : Data) : (s.setDout v).outstanding = s.outstanding := rfl
@[simp] theorem State.setDout_grant (s : State) (v : Data) : (s.setDout v).grant = s.grant := rfl
@[simp] theorem State.setDout_sched (s : State) (v : Data) : (s.setDout v).sched = s.sched := rfl

/-! `complete` -/

@[simp] theorem State.complete_cfg (s : State) (p : Port) : (s.complete p).cfg = s.cfg := rfl
@[simp] theorem State.complete_din (s : State) (p : Port) : (s.complete p).din = s.din := rfl
@[simp] theorem State.complete_dout (s : State) (p : Port) : (s.complete p).dout = s.dout := rfl
@[simp] theorem State.complete_head (s : State) (p : Port) : (s.complete p).head = s.head := rfl
@[simp] theorem State.complete_tail (s : State) (p : Port) : (s.complete p).tail = s.tail := rfl
@[simp] theorem State.complete_wroteLast (s : State) (p : Port) : (s.complete p).wroteLast = s.wroteLast := rfl
@[simp] theorem State.complete_bitacc (s : State) (p : Port) : (s.complete p).bitacc = s.bitacc := rfl
@[simp] theorem State.complete_bitcnt (s : State) (p : Port) : (s.complete p).bitcnt = s.bitcnt := rfl
@[simp] theorem State.complete_qbuf (s : State) (p : Port) : (s.complete p).qbuf = s.qbuf := rfl
@[simp] theorem State.complete_recOpen (s : State) (p : Port) : (s.complete p).recOpen = s.recOpen := rfl
@[simp] theorem State.complete_recPort (s : State) (p : Port) : (s.complete p).recPort = s.recPort := rfl
@[simp] theorem State.complete_recCount (s : State) (p : Port) : (s.complete p).recCount = s.recCount := rfl
@[simp] theorem State.complete_datalen (s : State) (p : Port) : (s.complete p).datalen = s.datalen := rfl
@[simp] theorem State.complete_tally (s : State) (p : Port) : (s.complete p).tally = s.tally := rfl
@[simp] theorem State.complete_cnt (s : State) (p : Port) : (s.complete p).cnt = s.cnt := rfl
@[simp] theorem State.complete_ovf (s : State) (p : Port) : (s.complete p).ovf = s.ovf := rfl
@[simp] theorem State.complete_ovfLost (s : State) (p : Port) : (s.complete p).ovfLost = s.ovfLost := rfl
@[simp] theorem State.complete_run (s : State) (p : Port) : (s.complete p).run = s.run := rfl
@[simp] theorem State.complete_ovfie (s : State) (p : Port) : (s.complete p).ovfie = s.ovfie := rfl
@[simp] theorem State.complete_nowPhase (s : State) (p : Port) : (s.complete p).nowPhase = s.nowPhase := rfl
@[simp] theorem State.complete_nowPort (s : State) (p : Port) : (s.complete p).nowPort = s.nowPort := rfl
@[simp] theorem State.complete_nowPre (s : State) (p : Port) : (s.complete p).nowPre = s.nowPre := rfl
@[simp] theorem State.complete_nowV (s : State) (p : Port) : (s.complete p).nowV = s.nowV := rfl
@[simp] theorem State.complete_chraw (s : State) (p : Port) : (s.complete p).chraw = s.chraw := rfl
@[simp] theorem State.complete_txOpen (s : State) (p : Port) : (s.complete p).txOpen = s.txOpen := rfl
@[simp] theorem State.complete_txPort (s : State) (p : Port) : (s.complete p).txPort = s.txPort := rfl
@[simp] theorem State.complete_txsum (s : State) (p : Port) : (s.complete p).txsum = s.txsum := rfl
@[simp] theorem State.complete_txrem (s : State) (p : Port) : (s.complete p).txrem = s.txrem := rfl
@[simp] theorem State.complete_txout (s : State) (p : Port) : (s.complete p).txout = s.txout := rfl
@[simp] theorem State.complete_rxst (s : State) (p : Port) : (s.complete p).rxst = s.rxst := rfl
@[simp] theorem State.complete_rxsum (s : State) (p : Port) : (s.complete p).rxsum = s.rxsum := rfl
@[simp] theorem State.complete_rxcmdr (s : State) (p : Port) : (s.complete p).rxcmdr = s.rxcmdr := rfl
@[simp] theorem State.complete_rxlenr (s : State) (p : Port) : (s.complete p).rxlenr = s.rxlenr := rfl
@[simp] theorem State.complete_rxk (s : State) (p : Port) : (s.complete p).rxk = s.rxk := rfl
@[simp] theorem State.complete_rxValid (s : State) (p : Port) : (s.complete p).rxValid = s.rxValid := rfl
@[simp] theorem State.complete_rxbuf (s : State) (p : Port) : (s.complete p).rxbuf = s.rxbuf := rfl
@[simp] theorem State.complete_faulted (s : State) (p : Port) : (s.complete p).faulted = s.faulted := rfl
@[simp] theorem State.complete_faultCode (s : State) (p : Port) : (s.complete p).faultCode = s.faultCode := rfl
@[simp] theorem State.complete_faultOp (s : State) (p : Port) : (s.complete p).faultOp = s.faultOp := rfl
@[simp] theorem State.complete_faultPort (s : State) (p : Port) : (s.complete p).faultPort = s.faultPort := rfl
@[simp] theorem State.complete_ops (s : State) (p : Port) : (s.complete p).ops = s.ops := rfl
@[simp] theorem State.complete_opIndex (s : State) (p : Port) :
    (s.complete p).opIndex = s.opIndex.set p (s.opIndex.get p + 1) := rfl
@[simp] theorem State.complete_outstanding (s : State) (p : Port) :
    (s.complete p).outstanding = s.outstanding.set p false := rfl
@[simp] theorem State.complete_grant (s : State) (p : Port) : (s.complete p).grant = s.grant := rfl
@[simp] theorem State.complete_sched (s : State) (p : Port) : (s.complete p).sched = s.sched := rfl

/-! `wait` -/

@[simp] theorem State.wait_cfg (s : State) (p : Port) : (s.wait p).cfg = s.cfg := rfl
@[simp] theorem State.wait_din (s : State) (p : Port) : (s.wait p).din = s.din := rfl
@[simp] theorem State.wait_dout (s : State) (p : Port) : (s.wait p).dout = s.dout := rfl
@[simp] theorem State.wait_head (s : State) (p : Port) : (s.wait p).head = s.head := rfl
@[simp] theorem State.wait_tail (s : State) (p : Port) : (s.wait p).tail = s.tail := rfl
@[simp] theorem State.wait_wroteLast (s : State) (p : Port) : (s.wait p).wroteLast = s.wroteLast := rfl
@[simp] theorem State.wait_bitacc (s : State) (p : Port) : (s.wait p).bitacc = s.bitacc := rfl
@[simp] theorem State.wait_bitcnt (s : State) (p : Port) : (s.wait p).bitcnt = s.bitcnt := rfl
@[simp] theorem State.wait_qbuf (s : State) (p : Port) : (s.wait p).qbuf = s.qbuf := rfl
@[simp] theorem State.wait_recOpen (s : State) (p : Port) : (s.wait p).recOpen = s.recOpen := rfl
@[simp] theorem State.wait_recPort (s : State) (p : Port) : (s.wait p).recPort = s.recPort := rfl
@[simp] theorem State.wait_recCount (s : State) (p : Port) : (s.wait p).recCount = s.recCount := rfl
@[simp] theorem State.wait_datalen (s : State) (p : Port) : (s.wait p).datalen = s.datalen := rfl
@[simp] theorem State.wait_tally (s : State) (p : Port) : (s.wait p).tally = s.tally := rfl
@[simp] theorem State.wait_cnt (s : State) (p : Port) : (s.wait p).cnt = s.cnt := rfl
@[simp] theorem State.wait_ovf (s : State) (p : Port) : (s.wait p).ovf = s.ovf := rfl
@[simp] theorem State.wait_ovfLost (s : State) (p : Port) : (s.wait p).ovfLost = s.ovfLost := rfl
@[simp] theorem State.wait_run (s : State) (p : Port) : (s.wait p).run = s.run := rfl
@[simp] theorem State.wait_ovfie (s : State) (p : Port) : (s.wait p).ovfie = s.ovfie := rfl
@[simp] theorem State.wait_nowPhase (s : State) (p : Port) : (s.wait p).nowPhase = s.nowPhase := rfl
@[simp] theorem State.wait_nowPort (s : State) (p : Port) : (s.wait p).nowPort = s.nowPort := rfl
@[simp] theorem State.wait_nowPre (s : State) (p : Port) : (s.wait p).nowPre = s.nowPre := rfl
@[simp] theorem State.wait_nowV (s : State) (p : Port) : (s.wait p).nowV = s.nowV := rfl
@[simp] theorem State.wait_chraw (s : State) (p : Port) : (s.wait p).chraw = s.chraw := rfl
@[simp] theorem State.wait_txOpen (s : State) (p : Port) : (s.wait p).txOpen = s.txOpen := rfl
@[simp] theorem State.wait_txPort (s : State) (p : Port) : (s.wait p).txPort = s.txPort := rfl
@[simp] theorem State.wait_txsum (s : State) (p : Port) : (s.wait p).txsum = s.txsum := rfl
@[simp] theorem State.wait_txrem (s : State) (p : Port) : (s.wait p).txrem = s.txrem := rfl
@[simp] theorem State.wait_txout (s : State) (p : Port) : (s.wait p).txout = s.txout := rfl
@[simp] theorem State.wait_rxst (s : State) (p : Port) : (s.wait p).rxst = s.rxst := rfl
@[simp] theorem State.wait_rxsum (s : State) (p : Port) : (s.wait p).rxsum = s.rxsum := rfl
@[simp] theorem State.wait_rxcmdr (s : State) (p : Port) : (s.wait p).rxcmdr = s.rxcmdr := rfl
@[simp] theorem State.wait_rxlenr (s : State) (p : Port) : (s.wait p).rxlenr = s.rxlenr := rfl
@[simp] theorem State.wait_rxk (s : State) (p : Port) : (s.wait p).rxk = s.rxk := rfl
@[simp] theorem State.wait_rxValid (s : State) (p : Port) : (s.wait p).rxValid = s.rxValid := rfl
@[simp] theorem State.wait_rxbuf (s : State) (p : Port) : (s.wait p).rxbuf = s.rxbuf := rfl
@[simp] theorem State.wait_faulted (s : State) (p : Port) : (s.wait p).faulted = s.faulted := rfl
@[simp] theorem State.wait_faultCode (s : State) (p : Port) : (s.wait p).faultCode = s.faultCode := rfl
@[simp] theorem State.wait_faultOp (s : State) (p : Port) : (s.wait p).faultOp = s.faultOp := rfl
@[simp] theorem State.wait_faultPort (s : State) (p : Port) : (s.wait p).faultPort = s.faultPort := rfl
@[simp] theorem State.wait_ops (s : State) (p : Port) : (s.wait p).ops = s.ops := rfl
@[simp] theorem State.wait_opIndex (s : State) (p : Port) : (s.wait p).opIndex = s.opIndex := rfl
@[simp] theorem State.wait_outstanding (s : State) (p : Port) :
    (s.wait p).outstanding = s.outstanding.set p true := rfl
@[simp] theorem State.wait_grant (s : State) (p : Port) : (s.wait p).grant = s.grant := rfl
@[simp] theorem State.wait_sched (s : State) (p : Port) : (s.wait p).sched = s.sched := rfl

/-! `emit` -/

@[simp] theorem State.emit_cfg (s : State) (bs : List Byte) : (s.emit bs).cfg = s.cfg := rfl
@[simp] theorem State.emit_din (s : State) (bs : List Byte) : (s.emit bs).din = s.din := rfl
@[simp] theorem State.emit_dout (s : State) (bs : List Byte) : (s.emit bs).dout = s.dout := rfl
@[simp] theorem State.emit_head (s : State) (bs : List Byte) : (s.emit bs).head = s.head := rfl
@[simp] theorem State.emit_tail (s : State) (bs : List Byte) : (s.emit bs).tail = s.tail := rfl
@[simp] theorem State.emit_wroteLast (s : State) (bs : List Byte) : (s.emit bs).wroteLast = s.wroteLast := rfl
@[simp] theorem State.emit_bitacc (s : State) (bs : List Byte) : (s.emit bs).bitacc = s.bitacc := rfl
@[simp] theorem State.emit_bitcnt (s : State) (bs : List Byte) : (s.emit bs).bitcnt = s.bitcnt := rfl
@[simp] theorem State.emit_qbuf (s : State) (bs : List Byte) : (s.emit bs).qbuf = s.qbuf := rfl
@[simp] theorem State.emit_recOpen (s : State) (bs : List Byte) : (s.emit bs).recOpen = s.recOpen := rfl
@[simp] theorem State.emit_recPort (s : State) (bs : List Byte) : (s.emit bs).recPort = s.recPort := rfl
@[simp] theorem State.emit_recCount (s : State) (bs : List Byte) : (s.emit bs).recCount = s.recCount := rfl
@[simp] theorem State.emit_datalen (s : State) (bs : List Byte) : (s.emit bs).datalen = s.datalen := rfl
@[simp] theorem State.emit_tally (s : State) (bs : List Byte) : (s.emit bs).tally = s.tally := rfl
@[simp] theorem State.emit_cnt (s : State) (bs : List Byte) : (s.emit bs).cnt = s.cnt := rfl
@[simp] theorem State.emit_ovf (s : State) (bs : List Byte) : (s.emit bs).ovf = s.ovf := rfl
@[simp] theorem State.emit_ovfLost (s : State) (bs : List Byte) : (s.emit bs).ovfLost = s.ovfLost := rfl
@[simp] theorem State.emit_run (s : State) (bs : List Byte) : (s.emit bs).run = s.run := rfl
@[simp] theorem State.emit_ovfie (s : State) (bs : List Byte) : (s.emit bs).ovfie = s.ovfie := rfl
@[simp] theorem State.emit_nowPhase (s : State) (bs : List Byte) : (s.emit bs).nowPhase = s.nowPhase := rfl
@[simp] theorem State.emit_nowPort (s : State) (bs : List Byte) : (s.emit bs).nowPort = s.nowPort := rfl
@[simp] theorem State.emit_nowPre (s : State) (bs : List Byte) : (s.emit bs).nowPre = s.nowPre := rfl
@[simp] theorem State.emit_nowV (s : State) (bs : List Byte) : (s.emit bs).nowV = s.nowV := rfl
@[simp] theorem State.emit_chraw (s : State) (bs : List Byte) : (s.emit bs).chraw = s.chraw := rfl
@[simp] theorem State.emit_txOpen (s : State) (bs : List Byte) : (s.emit bs).txOpen = s.txOpen := rfl
@[simp] theorem State.emit_txPort (s : State) (bs : List Byte) : (s.emit bs).txPort = s.txPort := rfl
@[simp] theorem State.emit_txsum (s : State) (bs : List Byte) : (s.emit bs).txsum = s.txsum := rfl
@[simp] theorem State.emit_txrem (s : State) (bs : List Byte) : (s.emit bs).txrem = s.txrem := rfl
@[simp] theorem State.emit_txout (s : State) (bs : List Byte) :
    (s.emit bs).txout = s.txout ++ bs.map TxEvent.byte := rfl
@[simp] theorem State.emit_rxst (s : State) (bs : List Byte) : (s.emit bs).rxst = s.rxst := rfl
@[simp] theorem State.emit_rxsum (s : State) (bs : List Byte) : (s.emit bs).rxsum = s.rxsum := rfl
@[simp] theorem State.emit_rxcmdr (s : State) (bs : List Byte) : (s.emit bs).rxcmdr = s.rxcmdr := rfl
@[simp] theorem State.emit_rxlenr (s : State) (bs : List Byte) : (s.emit bs).rxlenr = s.rxlenr := rfl
@[simp] theorem State.emit_rxk (s : State) (bs : List Byte) : (s.emit bs).rxk = s.rxk := rfl
@[simp] theorem State.emit_rxValid (s : State) (bs : List Byte) : (s.emit bs).rxValid = s.rxValid := rfl
@[simp] theorem State.emit_rxbuf (s : State) (bs : List Byte) : (s.emit bs).rxbuf = s.rxbuf := rfl
@[simp] theorem State.emit_faulted (s : State) (bs : List Byte) : (s.emit bs).faulted = s.faulted := rfl
@[simp] theorem State.emit_faultCode (s : State) (bs : List Byte) : (s.emit bs).faultCode = s.faultCode := rfl
@[simp] theorem State.emit_faultOp (s : State) (bs : List Byte) : (s.emit bs).faultOp = s.faultOp := rfl
@[simp] theorem State.emit_faultPort (s : State) (bs : List Byte) : (s.emit bs).faultPort = s.faultPort := rfl
@[simp] theorem State.emit_ops (s : State) (bs : List Byte) : (s.emit bs).ops = s.ops := rfl
@[simp] theorem State.emit_opIndex (s : State) (bs : List Byte) : (s.emit bs).opIndex = s.opIndex := rfl
@[simp] theorem State.emit_outstanding (s : State) (bs : List Byte) : (s.emit bs).outstanding = s.outstanding := rfl
@[simp] theorem State.emit_grant (s : State) (bs : List Byte) : (s.emit bs).grant = s.grant := rfl
@[simp] theorem State.emit_sched (s : State) (bs : List Byte) : (s.emit bs).sched = s.sched := rfl

/-! `emitFlush` -/

@[simp] theorem State.emitFlush_cfg (s : State) : (s.emitFlush).cfg = s.cfg := rfl
@[simp] theorem State.emitFlush_din (s : State) : (s.emitFlush).din = s.din := rfl
@[simp] theorem State.emitFlush_dout (s : State) : (s.emitFlush).dout = s.dout := rfl
@[simp] theorem State.emitFlush_head (s : State) : (s.emitFlush).head = s.head := rfl
@[simp] theorem State.emitFlush_tail (s : State) : (s.emitFlush).tail = s.tail := rfl
@[simp] theorem State.emitFlush_wroteLast (s : State) : (s.emitFlush).wroteLast = s.wroteLast := rfl
@[simp] theorem State.emitFlush_bitacc (s : State) : (s.emitFlush).bitacc = s.bitacc := rfl
@[simp] theorem State.emitFlush_bitcnt (s : State) : (s.emitFlush).bitcnt = s.bitcnt := rfl
@[simp] theorem State.emitFlush_qbuf (s : State) : (s.emitFlush).qbuf = s.qbuf := rfl
@[simp] theorem State.emitFlush_recOpen (s : State) : (s.emitFlush).recOpen = s.recOpen := rfl
@[simp] theorem State.emitFlush_recPort (s : State) : (s.emitFlush).recPort = s.recPort := rfl
@[simp] theorem State.emitFlush_recCount (s : State) : (s.emitFlush).recCount = s.recCount := rfl
@[simp] theorem State.emitFlush_datalen (s : State) : (s.emitFlush).datalen = s.datalen := rfl
@[simp] theorem State.emitFlush_tally (s : State) : (s.emitFlush).tally = s.tally := rfl
@[simp] theorem State.emitFlush_cnt (s : State) : (s.emitFlush).cnt = s.cnt := rfl
@[simp] theorem State.emitFlush_ovf (s : State) : (s.emitFlush).ovf = s.ovf := rfl
@[simp] theorem State.emitFlush_ovfLost (s : State) : (s.emitFlush).ovfLost = s.ovfLost := rfl
@[simp] theorem State.emitFlush_run (s : State) : (s.emitFlush).run = s.run := rfl
@[simp] theorem State.emitFlush_ovfie (s : State) : (s.emitFlush).ovfie = s.ovfie := rfl
@[simp] theorem State.emitFlush_nowPhase (s : State) : (s.emitFlush).nowPhase = s.nowPhase := rfl
@[simp] theorem State.emitFlush_nowPort (s : State) : (s.emitFlush).nowPort = s.nowPort := rfl
@[simp] theorem State.emitFlush_nowPre (s : State) : (s.emitFlush).nowPre = s.nowPre := rfl
@[simp] theorem State.emitFlush_nowV (s : State) : (s.emitFlush).nowV = s.nowV := rfl
@[simp] theorem State.emitFlush_chraw (s : State) : (s.emitFlush).chraw = s.chraw := rfl
@[simp] theorem State.emitFlush_txOpen (s : State) : (s.emitFlush).txOpen = s.txOpen := rfl
@[simp] theorem State.emitFlush_txPort (s : State) : (s.emitFlush).txPort = s.txPort := rfl
@[simp] theorem State.emitFlush_txsum (s : State) : (s.emitFlush).txsum = s.txsum := rfl
@[simp] theorem State.emitFlush_txrem (s : State) : (s.emitFlush).txrem = s.txrem := rfl
@[simp] theorem State.emitFlush_txout (s : State) :
    (s.emitFlush).txout = s.txout ++ [TxEvent.flush] := rfl
@[simp] theorem State.emitFlush_rxst (s : State) : (s.emitFlush).rxst = s.rxst := rfl
@[simp] theorem State.emitFlush_rxsum (s : State) : (s.emitFlush).rxsum = s.rxsum := rfl
@[simp] theorem State.emitFlush_rxcmdr (s : State) : (s.emitFlush).rxcmdr = s.rxcmdr := rfl
@[simp] theorem State.emitFlush_rxlenr (s : State) : (s.emitFlush).rxlenr = s.rxlenr := rfl
@[simp] theorem State.emitFlush_rxk (s : State) : (s.emitFlush).rxk = s.rxk := rfl
@[simp] theorem State.emitFlush_rxValid (s : State) : (s.emitFlush).rxValid = s.rxValid := rfl
@[simp] theorem State.emitFlush_rxbuf (s : State) : (s.emitFlush).rxbuf = s.rxbuf := rfl
@[simp] theorem State.emitFlush_faulted (s : State) : (s.emitFlush).faulted = s.faulted := rfl
@[simp] theorem State.emitFlush_faultCode (s : State) : (s.emitFlush).faultCode = s.faultCode := rfl
@[simp] theorem State.emitFlush_faultOp (s : State) : (s.emitFlush).faultOp = s.faultOp := rfl
@[simp] theorem State.emitFlush_faultPort (s : State) : (s.emitFlush).faultPort = s.faultPort := rfl
@[simp] theorem State.emitFlush_ops (s : State) : (s.emitFlush).ops = s.ops := rfl
@[simp] theorem State.emitFlush_opIndex (s : State) : (s.emitFlush).opIndex = s.opIndex := rfl
@[simp] theorem State.emitFlush_outstanding (s : State) : (s.emitFlush).outstanding = s.outstanding := rfl
@[simp] theorem State.emitFlush_grant (s : State) : (s.emitFlush).grant = s.grant := rfl
@[simp] theorem State.emitFlush_sched (s : State) : (s.emitFlush).sched = s.sched := rfl

/-! `pushed` -/

@[simp] theorem State.pushed_cfg (s : State) : (s.pushed).cfg = s.cfg := rfl
@[simp] theorem State.pushed_din (s : State) : (s.pushed).din = s.din := rfl
@[simp] theorem State.pushed_dout (s : State) : (s.pushed).dout = s.dout := rfl
@[simp] theorem State.pushed_head (s : State) :
    (s.pushed).head = nextIndex s.cfg.n s.head := rfl
@[simp] theorem State.pushed_tail (s : State) : (s.pushed).tail = s.tail := rfl
@[simp] theorem State.pushed_wroteLast (s : State) :
    (s.pushed).wroteLast = true := rfl
@[simp] theorem State.pushed_bitacc (s : State) : (s.pushed).bitacc = s.bitacc := rfl
@[simp] theorem State.pushed_bitcnt (s : State) : (s.pushed).bitcnt = s.bitcnt := rfl
@[simp] theorem State.pushed_qbuf (s : State) : (s.pushed).qbuf = s.qbuf := rfl
@[simp] theorem State.pushed_recOpen (s : State) : (s.pushed).recOpen = s.recOpen := rfl
@[simp] theorem State.pushed_recPort (s : State) : (s.pushed).recPort = s.recPort := rfl
@[simp] theorem State.pushed_recCount (s : State) :
    (s.pushed).recCount = if s.recOpen then s.recCount + 1 else s.recCount := rfl
@[simp] theorem State.pushed_datalen (s : State) : (s.pushed).datalen = s.datalen := rfl
@[simp] theorem State.pushed_tally (s : State) : (s.pushed).tally = s.tally := rfl
@[simp] theorem State.pushed_cnt (s : State) : (s.pushed).cnt = s.cnt := rfl
@[simp] theorem State.pushed_ovf (s : State) : (s.pushed).ovf = s.ovf := rfl
@[simp] theorem State.pushed_ovfLost (s : State) : (s.pushed).ovfLost = s.ovfLost := rfl
@[simp] theorem State.pushed_run (s : State) : (s.pushed).run = s.run := rfl
@[simp] theorem State.pushed_ovfie (s : State) : (s.pushed).ovfie = s.ovfie := rfl
@[simp] theorem State.pushed_nowPhase (s : State) : (s.pushed).nowPhase = s.nowPhase := rfl
@[simp] theorem State.pushed_nowPort (s : State) : (s.pushed).nowPort = s.nowPort := rfl
@[simp] theorem State.pushed_nowPre (s : State) : (s.pushed).nowPre = s.nowPre := rfl
@[simp] theorem State.pushed_nowV (s : State) : (s.pushed).nowV = s.nowV := rfl
@[simp] theorem State.pushed_chraw (s : State) : (s.pushed).chraw = s.chraw := rfl
@[simp] theorem State.pushed_txOpen (s : State) : (s.pushed).txOpen = s.txOpen := rfl
@[simp] theorem State.pushed_txPort (s : State) : (s.pushed).txPort = s.txPort := rfl
@[simp] theorem State.pushed_txsum (s : State) : (s.pushed).txsum = s.txsum := rfl
@[simp] theorem State.pushed_txrem (s : State) : (s.pushed).txrem = s.txrem := rfl
@[simp] theorem State.pushed_txout (s : State) : (s.pushed).txout = s.txout := rfl
@[simp] theorem State.pushed_rxst (s : State) : (s.pushed).rxst = s.rxst := rfl
@[simp] theorem State.pushed_rxsum (s : State) : (s.pushed).rxsum = s.rxsum := rfl
@[simp] theorem State.pushed_rxcmdr (s : State) : (s.pushed).rxcmdr = s.rxcmdr := rfl
@[simp] theorem State.pushed_rxlenr (s : State) : (s.pushed).rxlenr = s.rxlenr := rfl
@[simp] theorem State.pushed_rxk (s : State) : (s.pushed).rxk = s.rxk := rfl
@[simp] theorem State.pushed_rxValid (s : State) : (s.pushed).rxValid = s.rxValid := rfl
@[simp] theorem State.pushed_rxbuf (s : State) : (s.pushed).rxbuf = s.rxbuf := rfl
@[simp] theorem State.pushed_faulted (s : State) : (s.pushed).faulted = s.faulted := rfl
@[simp] theorem State.pushed_faultCode (s : State) : (s.pushed).faultCode = s.faultCode := rfl
@[simp] theorem State.pushed_faultOp (s : State) : (s.pushed).faultOp = s.faultOp := rfl
@[simp] theorem State.pushed_faultPort (s : State) : (s.pushed).faultPort = s.faultPort := rfl
@[simp] theorem State.pushed_ops (s : State) : (s.pushed).ops = s.ops := rfl
@[simp] theorem State.pushed_opIndex (s : State) : (s.pushed).opIndex = s.opIndex := rfl
@[simp] theorem State.pushed_outstanding (s : State) : (s.pushed).outstanding = s.outstanding := rfl
@[simp] theorem State.pushed_grant (s : State) : (s.pushed).grant = s.grant := rfl
@[simp] theorem State.pushed_sched (s : State) : (s.pushed).sched = s.sched := rfl

/-! `popped` -/

@[simp] theorem State.popped_cfg (s : State) : (s.popped).cfg = s.cfg := rfl
@[simp] theorem State.popped_din (s : State) : (s.popped).din = s.din := rfl
@[simp] theorem State.popped_dout (s : State) : (s.popped).dout = s.dout := rfl
@[simp] theorem State.popped_head (s : State) : (s.popped).head = s.head := rfl
@[simp] theorem State.popped_tail (s : State) :
    (s.popped).tail = nextIndex s.cfg.n s.tail := rfl
@[simp] theorem State.popped_wroteLast (s : State) :
    (s.popped).wroteLast = false := rfl
@[simp] theorem State.popped_bitacc (s : State) : (s.popped).bitacc = s.bitacc := rfl
@[simp] theorem State.popped_bitcnt (s : State) : (s.popped).bitcnt = s.bitcnt := rfl
@[simp] theorem State.popped_qbuf (s : State) : (s.popped).qbuf = s.qbuf := rfl
@[simp] theorem State.popped_recOpen (s : State) : (s.popped).recOpen = s.recOpen := rfl
@[simp] theorem State.popped_recPort (s : State) : (s.popped).recPort = s.recPort := rfl
@[simp] theorem State.popped_recCount (s : State) : (s.popped).recCount = s.recCount := rfl
@[simp] theorem State.popped_datalen (s : State) : (s.popped).datalen = s.datalen := rfl
@[simp] theorem State.popped_tally (s : State) : (s.popped).tally = s.tally := rfl
@[simp] theorem State.popped_cnt (s : State) : (s.popped).cnt = s.cnt := rfl
@[simp] theorem State.popped_ovf (s : State) : (s.popped).ovf = s.ovf := rfl
@[simp] theorem State.popped_ovfLost (s : State) : (s.popped).ovfLost = s.ovfLost := rfl
@[simp] theorem State.popped_run (s : State) : (s.popped).run = s.run := rfl
@[simp] theorem State.popped_ovfie (s : State) : (s.popped).ovfie = s.ovfie := rfl
@[simp] theorem State.popped_nowPhase (s : State) : (s.popped).nowPhase = s.nowPhase := rfl
@[simp] theorem State.popped_nowPort (s : State) : (s.popped).nowPort = s.nowPort := rfl
@[simp] theorem State.popped_nowPre (s : State) : (s.popped).nowPre = s.nowPre := rfl
@[simp] theorem State.popped_nowV (s : State) : (s.popped).nowV = s.nowV := rfl
@[simp] theorem State.popped_chraw (s : State) : (s.popped).chraw = s.chraw := rfl
@[simp] theorem State.popped_txOpen (s : State) : (s.popped).txOpen = s.txOpen := rfl
@[simp] theorem State.popped_txPort (s : State) : (s.popped).txPort = s.txPort := rfl
@[simp] theorem State.popped_txsum (s : State) : (s.popped).txsum = s.txsum := rfl
@[simp] theorem State.popped_txrem (s : State) : (s.popped).txrem = s.txrem := rfl
@[simp] theorem State.popped_txout (s : State) : (s.popped).txout = s.txout := rfl
@[simp] theorem State.popped_rxst (s : State) : (s.popped).rxst = s.rxst := rfl
@[simp] theorem State.popped_rxsum (s : State) : (s.popped).rxsum = s.rxsum := rfl
@[simp] theorem State.popped_rxcmdr (s : State) : (s.popped).rxcmdr = s.rxcmdr := rfl
@[simp] theorem State.popped_rxlenr (s : State) : (s.popped).rxlenr = s.rxlenr := rfl
@[simp] theorem State.popped_rxk (s : State) : (s.popped).rxk = s.rxk := rfl
@[simp] theorem State.popped_rxValid (s : State) : (s.popped).rxValid = s.rxValid := rfl
@[simp] theorem State.popped_rxbuf (s : State) : (s.popped).rxbuf = s.rxbuf := rfl
@[simp] theorem State.popped_faulted (s : State) : (s.popped).faulted = s.faulted := rfl
@[simp] theorem State.popped_faultCode (s : State) : (s.popped).faultCode = s.faultCode := rfl
@[simp] theorem State.popped_faultOp (s : State) : (s.popped).faultOp = s.faultOp := rfl
@[simp] theorem State.popped_faultPort (s : State) : (s.popped).faultPort = s.faultPort := rfl
@[simp] theorem State.popped_ops (s : State) : (s.popped).ops = s.ops := rfl
@[simp] theorem State.popped_opIndex (s : State) : (s.popped).opIndex = s.opIndex := rfl
@[simp] theorem State.popped_outstanding (s : State) : (s.popped).outstanding = s.outstanding := rfl
@[simp] theorem State.popped_grant (s : State) : (s.popped).grant = s.grant := rfl
@[simp] theorem State.popped_sched (s : State) : (s.popped).sched = s.sched := rfl

/-! `setByte` -/

@[simp] theorem State.setByte_cfg (s : State) (sp : Space) (a : Nat) (b : Byte) : (s.setByte sp a b).cfg = s.cfg := by
  cases sp <;> rfl
@[simp] theorem State.setByte_din (s : State) (sp : Space) (a : Nat) (b : Byte) : (s.setByte sp a b).din = s.din := by
  cases sp <;> rfl
@[simp] theorem State.setByte_dout (s : State) (sp : Space) (a : Nat) (b : Byte) : (s.setByte sp a b).dout = s.dout := by
  cases sp <;> rfl
@[simp] theorem State.setByte_head (s : State) (sp : Space) (a : Nat) (b : Byte) : (s.setByte sp a b).head = s.head := by
  cases sp <;> rfl
@[simp] theorem State.setByte_tail (s : State) (sp : Space) (a : Nat) (b : Byte) : (s.setByte sp a b).tail = s.tail := by
  cases sp <;> rfl
@[simp] theorem State.setByte_wroteLast (s : State) (sp : Space) (a : Nat) (b : Byte) : (s.setByte sp a b).wroteLast = s.wroteLast := by
  cases sp <;> rfl
@[simp] theorem State.setByte_bitacc (s : State) (sp : Space) (a : Nat) (b : Byte) : (s.setByte sp a b).bitacc = s.bitacc := by
  cases sp <;> rfl
@[simp] theorem State.setByte_bitcnt (s : State) (sp : Space) (a : Nat) (b : Byte) : (s.setByte sp a b).bitcnt = s.bitcnt := by
  cases sp <;> rfl
@[simp] theorem State.setByte_recOpen (s : State) (sp : Space) (a : Nat) (b : Byte) : (s.setByte sp a b).recOpen = s.recOpen := by
  cases sp <;> rfl
@[simp] theorem State.setByte_recPort (s : State) (sp : Space) (a : Nat) (b : Byte) : (s.setByte sp a b).recPort = s.recPort := by
  cases sp <;> rfl
@[simp] theorem State.setByte_recCount (s : State) (sp : Space) (a : Nat) (b : Byte) : (s.setByte sp a b).recCount = s.recCount := by
  cases sp <;> rfl
@[simp] theorem State.setByte_datalen (s : State) (sp : Space) (a : Nat) (b : Byte) : (s.setByte sp a b).datalen = s.datalen := by
  cases sp <;> rfl
@[simp] theorem State.setByte_tally (s : State) (sp : Space) (a : Nat) (b : Byte) : (s.setByte sp a b).tally = s.tally := by
  cases sp <;> rfl
@[simp] theorem State.setByte_cnt (s : State) (sp : Space) (a : Nat) (b : Byte) : (s.setByte sp a b).cnt = s.cnt := by
  cases sp <;> rfl
@[simp] theorem State.setByte_ovf (s : State) (sp : Space) (a : Nat) (b : Byte) : (s.setByte sp a b).ovf = s.ovf := by
  cases sp <;> rfl
@[simp] theorem State.setByte_ovfLost (s : State) (sp : Space) (a : Nat) (b : Byte) : (s.setByte sp a b).ovfLost = s.ovfLost := by
  cases sp <;> rfl
@[simp] theorem State.setByte_run (s : State) (sp : Space) (a : Nat) (b : Byte) : (s.setByte sp a b).run = s.run := by
  cases sp <;> rfl
@[simp] theorem State.setByte_ovfie (s : State) (sp : Space) (a : Nat) (b : Byte) : (s.setByte sp a b).ovfie = s.ovfie := by
  cases sp <;> rfl
@[simp] theorem State.setByte_nowPhase (s : State) (sp : Space) (a : Nat) (b : Byte) : (s.setByte sp a b).nowPhase = s.nowPhase := by
  cases sp <;> rfl
@[simp] theorem State.setByte_nowPort (s : State) (sp : Space) (a : Nat) (b : Byte) : (s.setByte sp a b).nowPort = s.nowPort := by
  cases sp <;> rfl
@[simp] theorem State.setByte_nowPre (s : State) (sp : Space) (a : Nat) (b : Byte) : (s.setByte sp a b).nowPre = s.nowPre := by
  cases sp <;> rfl
@[simp] theorem State.setByte_nowV (s : State) (sp : Space) (a : Nat) (b : Byte) : (s.setByte sp a b).nowV = s.nowV := by
  cases sp <;> rfl
@[simp] theorem State.setByte_chraw (s : State) (sp : Space) (a : Nat) (b : Byte) : (s.setByte sp a b).chraw = s.chraw := by
  cases sp <;> rfl
@[simp] theorem State.setByte_txOpen (s : State) (sp : Space) (a : Nat) (b : Byte) : (s.setByte sp a b).txOpen = s.txOpen := by
  cases sp <;> rfl
@[simp] theorem State.setByte_txPort (s : State) (sp : Space) (a : Nat) (b : Byte) : (s.setByte sp a b).txPort = s.txPort := by
  cases sp <;> rfl
@[simp] theorem State.setByte_txsum (s : State) (sp : Space) (a : Nat) (b : Byte) : (s.setByte sp a b).txsum = s.txsum := by
  cases sp <;> rfl
@[simp] theorem State.setByte_txrem (s : State) (sp : Space) (a : Nat) (b : Byte) : (s.setByte sp a b).txrem = s.txrem := by
  cases sp <;> rfl
@[simp] theorem State.setByte_txout (s : State) (sp : Space) (a : Nat) (b : Byte) : (s.setByte sp a b).txout = s.txout := by
  cases sp <;> rfl
@[simp] theorem State.setByte_rxst (s : State) (sp : Space) (a : Nat) (b : Byte) : (s.setByte sp a b).rxst = s.rxst := by
  cases sp <;> rfl
@[simp] theorem State.setByte_rxsum (s : State) (sp : Space) (a : Nat) (b : Byte) : (s.setByte sp a b).rxsum = s.rxsum := by
  cases sp <;> rfl
@[simp] theorem State.setByte_rxcmdr (s : State) (sp : Space) (a : Nat) (b : Byte) : (s.setByte sp a b).rxcmdr = s.rxcmdr := by
  cases sp <;> rfl
@[simp] theorem State.setByte_rxlenr (s : State) (sp : Space) (a : Nat) (b : Byte) : (s.setByte sp a b).rxlenr = s.rxlenr := by
  cases sp <;> rfl
@[simp] theorem State.setByte_rxk (s : State) (sp : Space) (a : Nat) (b : Byte) : (s.setByte sp a b).rxk = s.rxk := by
  cases sp <;> rfl
@[simp] theorem State.setByte_rxValid (s : State) (sp : Space) (a : Nat) (b : Byte) : (s.setByte sp a b).rxValid = s.rxValid := by
  cases sp <;> rfl
@[simp] theorem State.setByte_faulted (s : State) (sp : Space) (a : Nat) (b : Byte) : (s.setByte sp a b).faulted = s.faulted := by
  cases sp <;> rfl
@[simp] theorem State.setByte_faultCode (s : State) (sp : Space) (a : Nat) (b : Byte) : (s.setByte sp a b).faultCode = s.faultCode := by
  cases sp <;> rfl
@[simp] theorem State.setByte_faultOp (s : State) (sp : Space) (a : Nat) (b : Byte) : (s.setByte sp a b).faultOp = s.faultOp := by
  cases sp <;> rfl
@[simp] theorem State.setByte_faultPort (s : State) (sp : Space) (a : Nat) (b : Byte) : (s.setByte sp a b).faultPort = s.faultPort := by
  cases sp <;> rfl
@[simp] theorem State.setByte_ops (s : State) (sp : Space) (a : Nat) (b : Byte) : (s.setByte sp a b).ops = s.ops := by
  cases sp <;> rfl
@[simp] theorem State.setByte_opIndex (s : State) (sp : Space) (a : Nat) (b : Byte) : (s.setByte sp a b).opIndex = s.opIndex := by
  cases sp <;> rfl
@[simp] theorem State.setByte_outstanding (s : State) (sp : Space) (a : Nat) (b : Byte) : (s.setByte sp a b).outstanding = s.outstanding := by
  cases sp <;> rfl
@[simp] theorem State.setByte_grant (s : State) (sp : Space) (a : Nat) (b : Byte) : (s.setByte sp a b).grant = s.grant := by
  cases sp <;> rfl
@[simp] theorem State.setByte_sched (s : State) (sp : Space) (a : Nat) (b : Byte) : (s.setByte sp a b).sched = s.sched := by
  cases sp <;> rfl
@[simp] theorem State.setByte_qbuf_qbuf (s : State) (a : Nat) (b : Byte) :
    (s.setByte .qbuf a b).qbuf = s.qbuf.write a b := rfl
@[simp] theorem State.setByte_qbuf_rxbuf (s : State) (a : Nat) (b : Byte) :
    (s.setByte .qbuf a b).rxbuf = s.rxbuf := rfl
@[simp] theorem State.setByte_rxbuf_rxbuf (s : State) (a : Nat) (b : Byte) :
    (s.setByte .rxbuf a b).rxbuf = s.rxbuf.write a b := rfl
@[simp] theorem State.setByte_rxbuf_qbuf (s : State) (a : Nat) (b : Byte) :
    (s.setByte .rxbuf a b).qbuf = s.qbuf := rfl

/-! `recordFault` -/

@[simp] theorem State.recordFault_cfg (s : State) (c : FaultCode) (op : OpWord) : (s.recordFault c op).cfg = s.cfg := by
  unfold State.recordFault; split <;> simp_all
@[simp] theorem State.recordFault_din (s : State) (c : FaultCode) (op : OpWord) : (s.recordFault c op).din = s.din := by
  unfold State.recordFault; split <;> simp_all
@[simp] theorem State.recordFault_dout (s : State) (c : FaultCode) (op : OpWord) : (s.recordFault c op).dout = s.dout := by
  unfold State.recordFault; split <;> simp_all
@[simp] theorem State.recordFault_head (s : State) (c : FaultCode) (op : OpWord) : (s.recordFault c op).head = s.head := by
  unfold State.recordFault; split <;> simp_all
@[simp] theorem State.recordFault_tail (s : State) (c : FaultCode) (op : OpWord) : (s.recordFault c op).tail = s.tail := by
  unfold State.recordFault; split <;> simp_all
@[simp] theorem State.recordFault_wroteLast (s : State) (c : FaultCode) (op : OpWord) : (s.recordFault c op).wroteLast = s.wroteLast := by
  unfold State.recordFault; split <;> simp_all
@[simp] theorem State.recordFault_bitacc (s : State) (c : FaultCode) (op : OpWord) : (s.recordFault c op).bitacc = s.bitacc := by
  unfold State.recordFault; split <;> simp_all
@[simp] theorem State.recordFault_bitcnt (s : State) (c : FaultCode) (op : OpWord) : (s.recordFault c op).bitcnt = s.bitcnt := by
  unfold State.recordFault; split <;> simp_all
@[simp] theorem State.recordFault_qbuf (s : State) (c : FaultCode) (op : OpWord) : (s.recordFault c op).qbuf = s.qbuf := by
  unfold State.recordFault; split <;> simp_all
@[simp] theorem State.recordFault_recOpen (s : State) (c : FaultCode) (op : OpWord) : (s.recordFault c op).recOpen = s.recOpen := by
  unfold State.recordFault; split <;> simp_all
@[simp] theorem State.recordFault_recPort (s : State) (c : FaultCode) (op : OpWord) : (s.recordFault c op).recPort = s.recPort := by
  unfold State.recordFault; split <;> simp_all
@[simp] theorem State.recordFault_recCount (s : State) (c : FaultCode) (op : OpWord) : (s.recordFault c op).recCount = s.recCount := by
  unfold State.recordFault; split <;> simp_all
@[simp] theorem State.recordFault_datalen (s : State) (c : FaultCode) (op : OpWord) : (s.recordFault c op).datalen = s.datalen := by
  unfold State.recordFault; split <;> simp_all
@[simp] theorem State.recordFault_tally (s : State) (c : FaultCode) (op : OpWord) : (s.recordFault c op).tally = s.tally := by
  unfold State.recordFault; split <;> simp_all
@[simp] theorem State.recordFault_cnt (s : State) (c : FaultCode) (op : OpWord) : (s.recordFault c op).cnt = s.cnt := by
  unfold State.recordFault; split <;> simp_all
@[simp] theorem State.recordFault_ovf (s : State) (c : FaultCode) (op : OpWord) : (s.recordFault c op).ovf = s.ovf := by
  unfold State.recordFault; split <;> simp_all
@[simp] theorem State.recordFault_ovfLost (s : State) (c : FaultCode) (op : OpWord) : (s.recordFault c op).ovfLost = s.ovfLost := by
  unfold State.recordFault; split <;> simp_all
@[simp] theorem State.recordFault_run (s : State) (c : FaultCode) (op : OpWord) : (s.recordFault c op).run = s.run := by
  unfold State.recordFault; split <;> simp_all
@[simp] theorem State.recordFault_ovfie (s : State) (c : FaultCode) (op : OpWord) : (s.recordFault c op).ovfie = s.ovfie := by
  unfold State.recordFault; split <;> simp_all
@[simp] theorem State.recordFault_nowPhase (s : State) (c : FaultCode) (op : OpWord) : (s.recordFault c op).nowPhase = s.nowPhase := by
  unfold State.recordFault; split <;> simp_all
@[simp] theorem State.recordFault_nowPort (s : State) (c : FaultCode) (op : OpWord) : (s.recordFault c op).nowPort = s.nowPort := by
  unfold State.recordFault; split <;> simp_all
@[simp] theorem State.recordFault_nowPre (s : State) (c : FaultCode) (op : OpWord) : (s.recordFault c op).nowPre = s.nowPre := by
  unfold State.recordFault; split <;> simp_all
@[simp] theorem State.recordFault_nowV (s : State) (c : FaultCode) (op : OpWord) : (s.recordFault c op).nowV = s.nowV := by
  unfold State.recordFault; split <;> simp_all
@[simp] theorem State.recordFault_chraw (s : State) (c : FaultCode) (op : OpWord) : (s.recordFault c op).chraw = s.chraw := by
  unfold State.recordFault; split <;> simp_all
@[simp] theorem State.recordFault_txOpen (s : State) (c : FaultCode) (op : OpWord) : (s.recordFault c op).txOpen = s.txOpen := by
  unfold State.recordFault; split <;> simp_all
@[simp] theorem State.recordFault_txPort (s : State) (c : FaultCode) (op : OpWord) : (s.recordFault c op).txPort = s.txPort := by
  unfold State.recordFault; split <;> simp_all
@[simp] theorem State.recordFault_txsum (s : State) (c : FaultCode) (op : OpWord) : (s.recordFault c op).txsum = s.txsum := by
  unfold State.recordFault; split <;> simp_all
@[simp] theorem State.recordFault_txrem (s : State) (c : FaultCode) (op : OpWord) : (s.recordFault c op).txrem = s.txrem := by
  unfold State.recordFault; split <;> simp_all
@[simp] theorem State.recordFault_txout (s : State) (c : FaultCode) (op : OpWord) : (s.recordFault c op).txout = s.txout := by
  unfold State.recordFault; split <;> simp_all
@[simp] theorem State.recordFault_rxst (s : State) (c : FaultCode) (op : OpWord) : (s.recordFault c op).rxst = s.rxst := by
  unfold State.recordFault; split <;> simp_all
@[simp] theorem State.recordFault_rxsum (s : State) (c : FaultCode) (op : OpWord) : (s.recordFault c op).rxsum = s.rxsum := by
  unfold State.recordFault; split <;> simp_all
@[simp] theorem State.recordFault_rxcmdr (s : State) (c : FaultCode) (op : OpWord) : (s.recordFault c op).rxcmdr = s.rxcmdr := by
  unfold State.recordFault; split <;> simp_all
@[simp] theorem State.recordFault_rxlenr (s : State) (c : FaultCode) (op : OpWord) : (s.recordFault c op).rxlenr = s.rxlenr := by
  unfold State.recordFault; split <;> simp_all
@[simp] theorem State.recordFault_rxk (s : State) (c : FaultCode) (op : OpWord) : (s.recordFault c op).rxk = s.rxk := by
  unfold State.recordFault; split <;> simp_all
@[simp] theorem State.recordFault_rxValid (s : State) (c : FaultCode) (op : OpWord) : (s.recordFault c op).rxValid = s.rxValid := by
  unfold State.recordFault; split <;> simp_all
@[simp] theorem State.recordFault_rxbuf (s : State) (c : FaultCode) (op : OpWord) : (s.recordFault c op).rxbuf = s.rxbuf := by
  unfold State.recordFault; split <;> simp_all
@[simp] theorem State.recordFault_faulted (s : State) (c : FaultCode) (op : OpWord) :
    (s.recordFault c op).faulted = true := by
  unfold State.recordFault; split <;> simp_all
@[simp] theorem State.recordFault_ops (s : State) (c : FaultCode) (op : OpWord) : (s.recordFault c op).ops = s.ops := by
  unfold State.recordFault; split <;> simp_all
@[simp] theorem State.recordFault_opIndex (s : State) (c : FaultCode) (op : OpWord) : (s.recordFault c op).opIndex = s.opIndex := by
  unfold State.recordFault; split <;> simp_all
@[simp] theorem State.recordFault_outstanding (s : State) (c : FaultCode) (op : OpWord) : (s.recordFault c op).outstanding = s.outstanding := by
  unfold State.recordFault; split <;> simp_all
@[simp] theorem State.recordFault_grant (s : State) (c : FaultCode) (op : OpWord) : (s.recordFault c op).grant = s.grant := by
  unfold State.recordFault; split <;> simp_all
@[simp] theorem State.recordFault_sched (s : State) (c : FaultCode) (op : OpWord) : (s.recordFault c op).sched = s.sched := by
  unfold State.recordFault; split <;> simp_all

/-- The first fault is recorded whole (60_exceptions.md R261). -/
theorem State.recordFault_first (s : State) (c : FaultCode) (op : OpWord) (h : s.faulted = false) :
    s.recordFault c op =
      { s with faulted := true, faultCode := c.bits, faultOp := op, faultPort := s.grant } := by
  simp [State.recordFault, h]

/-- A later fault is not recorded (R261). -/
theorem State.recordFault_later (s : State) (c : FaultCode) (op : OpWord) (h : s.faulted = true) :
    s.recordFault c op = s := by
  simp [State.recordFault, h]

end Sys2Proof.Machine
end

