-- ==== Sys2Proof/Laws/Ops.lean ====
section
/-! SUPPORT. What each shared operation can do, said once. -/

namespace Sys2Proof.Machine

/-! Reading and writing a byte of a space -/

theorem State.memRead_eq (s : State) (sp : Space) (a : Nat) (h : a < s.spaceSize sp) :
    s.memRead sp a = .ok ((s.bytesOf sp).read a) := by simp [State.memRead, h]

theorem State.memWrite_eq (s : State) (sp : Space) (a : Nat) (b : Byte) (h : a < s.spaceSize sp) :
    s.memWrite sp a b = .ok (s.setByte sp a b) := by simp [State.memWrite, h]

theorem State.memWrite_ok (s t : State) (sp : Space) (a : Nat) (b : Byte)
    (h : s.memWrite sp a b = .ok t) : a < s.spaceSize sp ∧ t = s.setByte sp a b := by
  unfold State.memWrite at h
  split at h
  · rename_i ha
    exact ⟨ha, (Except.ok.inj h).symm⟩
  · cases h

/-! Indices -/

/-- The next index stays inside the queue, whatever the index was (R11, R23). -/
theorem nextIndex_lt (n : Nat) (x : BitVec 15) (hn : 0 < n) : (nextIndex n x).toNat < n := by
  unfold nextIndex
  rw [BitVec.toNat_ofNat]
  exact Nat.lt_of_le_of_lt (Nat.mod_le _ _) (Nat.mod_lt _ hn)

/-- With N at most 2^15 the next index is the sum modulo N (R181, R188). -/
theorem nextIndex_toNat (n : Nat) (x : BitVec 15) (hn : 0 < n) (hle : n ≤ 32768) :
    (nextIndex n x).toNat = (x.toNat + 1) % n := by
  unfold nextIndex
  rw [BitVec.toNat_ofNat]
  exact Nat.mod_eq_of_lt (Nat.lt_of_lt_of_le (Nat.mod_lt _ hn) hle)

/-! The queue's primitives -/

/-- PushCheck passes exactly when the bytes fit (R182). -/
theorem pushCheck_none_iff (s : State) (k : Nat) : pushCheck s k = none ↔ PushFits s k := by
  unfold pushCheck PushFits
  split
  · rename_i h
    simp only [reduceCtorEq, false_iff]
    intro hf
    exact h.2 (hf.1 h.1).1
  · rename_i h1
    split
    · rename_i h
      simp only [reduceCtorEq, false_iff]
      intro hf
      have := (hf.1 h.1).2
      omega
    · rename_i h2
      split
      · rename_i h
        simp only [reduceCtorEq, false_iff]
        intro hf
        have := hf.2
        omega
      · rename_i h3
        simp only [true_iff]
        refine ⟨fun hr => ⟨?_, ?_⟩, by omega⟩
        · by_contra hp
          exact h1 ⟨hr, hp⟩
        · by_contra hl
          exact h2 ⟨hr, by omega⟩

/-- PushByte at an index the queue has: the byte written, then the registers (R181). -/
theorem pushByte_eq (s : State) (b : Byte) (h : s.head.toNat < s.cfg.n) :
    pushByte s b = .ok (s.setByte .qbuf s.head.toNat b).pushed := by
  unfold pushByte
  rw [State.memWrite_eq s .qbuf s.head.toNat b h]

theorem pushByte_ok (s t : State) (b : Byte) (h : pushByte s b = .ok t) :
    s.head.toNat < s.cfg.n ∧ t = (s.setByte .qbuf s.head.toNat b).pushed := by
  unfold pushByte at h
  split at h
  · rename_i u hu
    obtain ⟨hlt, rfl⟩ := State.memWrite_ok _ _ _ _ _ hu
    exact ⟨hlt, (Except.ok.inj h).symm⟩
  · cases h

/-- From an index inside the queue every list of bytes can be pushed. -/
theorem pushBytes_completes (s : State) (bs : List Byte) (hn : 0 < s.cfg.n)
    (h : s.head.toNat < s.cfg.n) : ∃ t, pushBytes s bs = .ok t := by
  induction bs generalizing s with
  | nil => exact ⟨s, rfl⟩
  | cons b bs ih =>
    simp only [pushBytes, pushByte_eq s b h]
    exact ih _ (by simpa using hn) (by simpa using nextIndex_lt _ _ hn)

/-- PopByte at an index the queue has (R188). -/
theorem popByte_eq (s : State) (h : s.tail.toNat < s.cfg.n) :
    popByte s = .ok (s.qbuf.read s.tail.toNat, s.popped) := by
  unfold popByte
  rw [State.memRead_eq s .qbuf s.tail.toNat h]
  rfl

/-- From an index inside the queue any number of bytes can be popped. -/
theorem popBytes_completes (s : State) (k : Nat) (hn : 0 < s.cfg.n) (h : s.tail.toNat < s.cfg.n) :
    ∃ bs t, popBytes s k = .ok (bs, t) ∧ bs.length = k := by
  induction k generalizing s with
  | zero => exact ⟨[], s, rfl, rfl⟩
  | succ k ih =>
    obtain ⟨bs, t, hp, hl⟩ := ih s.popped (by simpa using hn) (by simpa using nextIndex_lt _ _ hn)
    refine ⟨s.qbuf.read s.tail.toNat :: bs, t, ?_, by simp [hl]⟩
    simp only [popBytes, popByte_eq s h, hp]

/-! How an operation step ends -/

/-- Every next state of `finish` is one of four (R261; 00_scope.md R9). -/
theorem finish_next (i : Instr) (s t : State) (r : OpResult) (h : finish i s r = .next t) :
    (∃ u, r = .done u ∧ t = u.complete s.grant) ∨
    (∃ u, r = .more u ∧ t = u.wait s.grant) ∨
    (r = .hold ∧ t = s.wait s.grant) ∨
    (∃ c, r = .raise c ∧ t = (s.recordFault c (encode i)).complete s.grant) := by
  cases r with
  | done u => exact .inl ⟨u, rfl, (Host.Outcome.next.inj h).symm⟩
  | more u => exact .inr (.inl ⟨u, rfl, (Host.Outcome.next.inj h).symm⟩)
  | hold => exact .inr (.inr (.inl ⟨rfl, (Host.Outcome.next.inj h).symm⟩))
  | raise c => exact .inr (.inr (.inr ⟨c, rfl, (Host.Outcome.next.inj h).symm⟩))
  | stop f => cases h

/-- `finish` stops only where its rule does. -/
theorem finish_stops (i : Instr) (s : State) (r : OpResult) :
    (∃ t, finish i s r = .next t) ∨ ∃ f, r = .stop f ∧ finish i s r = .fault f := by
  cases r with
  | stop f => exact .inr ⟨f, rfl, rfl⟩
  | done u => exact .inl ⟨_, rfl⟩
  | more u => exact .inl ⟨_, rfl⟩
  | hold => exact .inl ⟨_, rfl⟩
  | raise c => exact .inl ⟨_, rfl⟩

/-- After a recorded fault an issued operation is consumed (R264). -/
theorem issue_faulted (i : Instr) (s : State) (r : OpResult) (h : s.faulted = true) :
    issue i s r = .next (s.complete s.grant) := by simp [issue, h]

/-- Before a fault an issued operation runs its rule (R264). -/
theorem issue_running (i : Instr) (s : State) (r : OpResult) (h : s.faulted = false) :
    issue i s r = finish i s r := by simp [issue, h]

@[simp] theorem check_none (r : OpResult) : check none r = r := rfl

@[simp] theorem check_some (c : FaultCode) (r : OpResult) : check (some c) r = .raise c := rfl

@[simp] theorem doneOr_ok (t : State) : doneOr (.ok t) = .done t := rfl

@[simp] theorem doneOr_error (f : Fault) : doneOr (.error f) = .stop f := rfl

/-- A checked rule completes only if the check passes and the rule completes. -/
theorem check_done (c : Option FaultCode) (r : OpResult) (t : State) (h : check c r = .done t) :
    c = none ∧ r = .done t := by
  cases c with
  | none => exact ⟨rfl, h⟩
  | some c => cases h

/-! Fetching -/

theorem placeAt_get (l : List OpWord) (k : Nat) (w : OpWord) : (placeAt l k w)[k]? = some w := by
  induction k generalizing l with
  | zero => cases l <;> rfl
  | succ k ih => cases l <;> simpa [placeAt] using ih _

/-- The word loaded on a port is the one it fetches next. -/
theorem State.loadOp_currentOp (s : State) (p : Port) (w : OpWord) :
    (s.loadOp p w).currentOp p = some w := by
  simp [State.loadOp, State.currentOp, placeAt_get]

/-- Completing one port's operation leaves every other port's operation where it was (R22). -/
theorem State.complete_currentOp_other (s : State) (p q : Port) (h : q ≠ p) :
    (s.complete p).currentOp q = s.currentOp q := by
  simp [State.currentOp, PerPort.get_set_other _ _ _ _ h]

@[simp] theorem State.wait_currentOp (s : State) (p q : Port) :
    (s.wait p).currentOp q = s.currentOp q := rfl

/-! Ticks -/

/-- A stopped counter does not count (44_timestamp.md R233). -/
theorem State.tick_stopped (s : State) (h : s.run = false) : s.tick = s := by simp [State.tick, h]

end Sys2Proof.Machine
end

