-- ==== Sys2Proof/Laws/PerInstr.lean ====
section
/-! SUPPORT. Statements made for every operation, one lemma per constructor. -/

namespace Sys2Proof.Laws.EncodingFields

/-- The operation's word keeps Z at 0, and the row of the operation map at its UNIT and FN rebuilds the
operation from its A and B (30_encoding.md R80, R85, R86). -/
def Statement (i : Instr) : Prop :=
  fieldZ (encode i) = 0 ∧
    ∃ r, findRow (unitOf (encode i)) (fnOf (encode i)) = some r ∧
      r.make (fieldA (encode i)) (fieldB (encode i)) = i

theorem cNop : Statement .cNop := by
  simp [Statement, encode, findRow, opMap]
theorem cStatus : Statement .cStatus := by
  simp [Statement, encode, findRow, opMap]
theorem cInfo : Statement .cInfo := by
  simp [Statement, encode, findRow, opMap]
theorem rxByte (b : Byte) : Statement (.rxByte b) := by
  simp [Statement, encode, findRow, opMap]
theorem rxStat : Statement .rxStat := by
  simp [Statement, encode, findRow, opMap]
theorem rxCmd : Statement .rxCmd := by
  simp [Statement, encode, findRow, opMap]
theorem rxLen : Statement .rxLen := by
  simp [Statement, encode, findRow, opMap]
theorem rxData (b : Byte) : Statement (.rxData b) := by
  simp [Statement, encode, findRow, opMap]
theorem rxAck : Statement .rxAck := by
  simp [Statement, encode, findRow, opMap]
theorem txCmd (c n : Byte) : Statement (.txCmd c n) := by
  simp [Statement, encode, findRow, opMap]
theorem txData (n : Byte) : Statement (.txData n) := by
  simp [Statement, encode, findRow, opMap]
theorem txErr (c n : Byte) : Statement (.txErr c n) := by
  simp [Statement, encode, findRow, opMap]
theorem txByte (b : Byte) : Statement (.txByte b) := by
  simp [Statement, encode, findRow, opMap]
theorem txEnd : Statement .txEnd := by
  simp [Statement, encode, findRow, opMap]
theorem txDrain : Statement .txDrain := by
  simp [Statement, encode, findRow, opMap]
theorem txFlush : Statement .txFlush := by
  simp [Statement, encode, findRow, opMap]
theorem qPush (b : Byte) : Statement (.qPush b) := by
  simp [Statement, encode, findRow, opMap]
theorem qPush16 : Statement .qPush16 := by
  simp [Statement, encode, findRow, opMap]
theorem qPush32 : Statement .qPush32 := by
  simp [Statement, encode, findRow, opMap]
theorem qPush64 : Statement .qPush64 := by
  simp [Statement, encode, findRow, opMap]
theorem qPop : Statement .qPop := by
  simp [Statement, encode, findRow, opMap]
theorem qSpace : Statement .qSpace := by
  simp [Statement, encode, findRow, opMap]
theorem qAvail : Statement .qAvail := by
  simp [Statement, encode, findRow, opMap]
theorem qClear : Statement .qClear := by
  simp [Statement, encode, findRow, opMap]
theorem qPushBit (a : Byte) : Statement (.qPushBit a) := by
  simp [Statement, encode, findRow, opMap]
theorem qFlushBits : Statement .qFlushBits := by
  simp [Statement, encode, findRow, opMap]
theorem qRBegin : Statement .qRBegin := by
  simp [Statement, encode, findRow, opMap]
theorem qREnd : Statement .qREnd := by
  simp [Statement, encode, findRow, opMap]
theorem qSetDLen (n : Byte) : Statement (.qSetDLen n) := by
  simp [Statement, encode, findRow, opMap]
theorem tStart : Statement .tStart := by
  simp [Statement, encode, findRow, opMap]
theorem tNow : Statement .tNow := by
  simp [Statement, encode, findRow, opMap]
theorem tOvfSvc : Statement .tOvfSvc := by
  simp [Statement, encode, findRow, opMap]

end Sys2Proof.Laws.EncodingFields
end

