-- ==== Sys2Proof/Laws/Queue.lean ====
section
/-! SUPPORT. The queue as a list: a push puts its byte at the end, a pop takes the first. -/

namespace Sys2Proof.Machine

/-- One wrap of a sum below 2N. -/
theorem mod_wrap (n x : Nat) (h : x < 2 * n) : x % n = if x < n then x else x - n := by
  split
  · rename_i hx
    exact Nat.mod_eq_of_lt hx
  · rename_i hx
    rw [Nat.mod_eq_sub_mod (by omega), Nat.mod_eq_of_lt (by omega)]

/-- OCC without a modulus (10_state.md R27). -/
theorem State.occ_eq (s : State) (h : s.QueueWf) :
    s.occ = if s.head.toNat = s.tail.toNat then (if s.wroteLast then s.cfg.n else 0)
      else if s.tail.toNat < s.head.toNat then s.head.toNat - s.tail.toNat
      else s.head.toNat + s.cfg.n - s.tail.toNat := by
  obtain ⟨hh, ht, -⟩ := h
  unfold State.occ
  simp only [← BitVec.toNat_inj]
  split
  · rfl
  · rename_i hne
    rw [mod_wrap _ _ (by omega)]
    split <;> split <;> omega

theorem State.occ_le (s : State) (h : s.QueueWf) : s.occ ≤ s.cfg.n := by
  rw [s.occ_eq h]
  obtain ⟨hh, ht, -⟩ := h
  repeat' split
  all_goals omega

/-- SPACE + OCC = N (43_queue.md R197). -/
theorem State.space_add_occ (s : State) (h : s.QueueWf) : s.space + s.occ = s.cfg.n := by
  have := s.occ_le h
  unfold State.space
  omega

theorem contents_length (s : State) : (contents s).length = s.occ := by simp [contents]

/-- HEAD is OCC bytes after TAIL, modulo N (R27). -/
theorem State.tail_add_occ (s : State) (h : s.QueueWf) :
    (s.tail.toNat + s.occ) % s.cfg.n = s.head.toNat := by
  have ho := s.occ_eq h
  have hle := s.occ_le h
  obtain ⟨hh, ht, -⟩ := h
  rw [mod_wrap _ _ (by omega), ho]
  repeat' split
  all_goals omega

/-- What PushByte leaves when a byte is free: one byte more, the pushed one last (R181, R71). -/
theorem contents_push (s : State) (b : Byte) (hn : 0 < s.cfg.n) (hle : s.cfg.n ≤ 32768)
    (h : s.QueueWf) (room : s.occ < s.cfg.n) :
    ((s.setByte .qbuf s.head.toNat b).pushed).QueueWf ∧
    ((s.setByte .qbuf s.head.toNat b).pushed).occ = s.occ + 1 ∧
    contents ((s.setByte .qbuf s.head.toNat b).pushed) = contents s ++ [b] := by
  have htail := s.tail_add_occ h
  have hoccs := s.occ_eq h
  obtain ⟨hh, ht, hm⟩ := h
  have hq : ((s.setByte .qbuf s.head.toNat b).pushed).QueueWf := by
    refine ⟨?_, ?_, ?_, ?_⟩
    · simpa using nextIndex_lt _ _ hn
    · simpa using ht
    · simpa using Memory.write_wf _ _ _ hm.1
    · simpa using Memory.write_bounded _ _ b _ hh hm.2
  have ho : ((s.setByte .qbuf s.head.toNat b).pushed).occ = s.occ + 1 := by
    rw [State.occ_eq _ hq]
    simp only [State.pushed_head, State.pushed_tail, State.pushed_wroteLast, State.pushed_cfg,
      State.setByte_head, State.setByte_tail, State.setByte_cfg, if_true]
    rw [nextIndex_toNat _ _ hn hle, mod_wrap _ _ (by omega)]
    generalize s.head.toNat = hd at *
    generalize s.tail.toNat = tl at *
    generalize s.cfg.n = n at *
    generalize s.occ = o at *
    repeat' split at hoccs
    all_goals (repeat' split)
    all_goals omega
  refine ⟨hq, ho, ?_⟩
  unfold contents
  rw [ho, List.range_succ, List.map_append]
  simp only [State.pushed_qbuf, State.pushed_tail, State.pushed_cfg, State.setByte_qbuf_qbuf,
    State.setByte_tail, State.setByte_cfg, List.map_cons, List.map_nil]
  congr 1
  · apply List.map_congr_left
    intro i hi
    rw [List.mem_range] at hi
    rw [Memory.read_write _ _ _ _ hm.1, if_neg]
    intro he
    rw [mod_wrap _ _ (by omega)] at he htail
    split at he <;> split at htail <;> omega
  · rw [htail, Memory.read_write _ _ _ _ hm.1, if_pos rfl]

/-- What PopByte takes when a byte is queued: the first, leaving the rest (R188, R71). -/
theorem contents_pop (s : State) (hn : 0 < s.cfg.n) (hle : s.cfg.n ≤ 32768) (h : s.QueueWf)
    (some : 0 < s.occ) :
    s.popped.QueueWf ∧ s.popped.occ + 1 = s.occ ∧
    contents s = s.qbuf.read s.tail.toNat :: contents s.popped := by
  have hoccs := s.occ_eq h
  have hlen := s.occ_le h
  obtain ⟨hh, ht, hm⟩ := h
  have hq : s.popped.QueueWf := ⟨hh, by simpa using nextIndex_lt _ _ hn, hm⟩
  have htl : s.popped.tail.toNat = (s.tail.toNat + 1) % s.cfg.n := by
    simpa using nextIndex_toNat _ _ hn hle
  have ho : s.popped.occ + 1 = s.occ := by
    rw [State.occ_eq _ hq, htl, mod_wrap _ _ (by omega)]
    simp only [State.popped_head, State.popped_wroteLast, State.popped_cfg]
    simp only [Bool.false_eq_true, if_false]
    rw [hoccs]
    rw [hoccs] at some
    split_ifs at some ⊢ <;> omega
  refine ⟨hq, ho, ?_⟩
  unfold contents
  rw [← ho, List.range_succ_eq_map, List.map_cons, List.map_map, htl]
  congr 1
  · rw [Nat.add_zero, Nat.mod_eq_of_lt ht]
  · apply List.map_congr_left
    intro i _
    simp only [Function.comp_apply, State.popped_qbuf, State.popped_cfg]
    congr 1
    rw [Nat.mod_add_mod]
    congr 1
    omega

end Sys2Proof.Machine
end

