-- ==== Sys2Proof/Machine/Assembler.lean ====
section
/-! DEFINITION. The assembler syntax of 30_encoding.md R89, one line at a time, pseudo-instructions of
R90 included. A line is a list of characters. -/

namespace Sys2Proof.Machine

/-- A line's words, before a `;` comment. White space and commas part words; a character in single
quotes is a word of its own whatever it is. -/
def splitLine (word : List Char) (line : List Char) : List (List Char) :=
  let flush := if word.isEmpty then [] else [word.reverse]
  match line with
  | [] => flush
  | '\'' :: c :: '\'' :: rest => flush ++ ['\'', c, '\''] :: splitLine [] rest
  | c :: rest =>
    if c = ';' then flush
    else if c = ' ' ∨ c = '\t' ∨ c = ',' then flush ++ splitLine [] rest
    else splitLine (c :: word) rest

/-- The value of a digit in a base. -/
def digitValue (base : Nat) (c : Char) : Option Nat :=
  let v :=
    if '0' ≤ c ∧ c ≤ '9' then c.toNat - 48
    else if 'a' ≤ c ∧ c ≤ 'f' then c.toNat - 87
    else if 'A' ≤ c ∧ c ≤ 'F' then c.toNat - 55
    else base
  if v < base then some v else none

/-- The number the digits write. -/
def digitsValue (base acc : Nat) (cs : List Char) : Option Nat :=
  match cs with
  | [] => some acc
  | c :: rest =>
    match digitValue base c with
    | some v => digitsValue base (acc * base + v) rest
    | none => none

/-- An operand: decimal, `0x` hexadecimal, or a quoted character for its byte value (R89, R98). -/
def operandValue (w : List Char) : Option Nat :=
  match w with
  | ['\'', c, '\''] => some c.toNat
  | '0' :: 'x' :: d :: ds => digitsValue 16 0 (d :: ds)
  | d :: ds => digitsValue 10 0 (d :: ds)
  | [] => none

/-- The operands of a line, each below the bound. -/
def operandList (bound : Nat) (ws : List (List Char)) : Option (List Nat) :=
  match ws with
  | [] => some []
  | w :: rest =>
    match operandValue w, operandList bound rest with
    | some v, some vs => if v < bound then some (v :: vs) else none
    | _, _ => none

/-- A mnemonic of the operation map, with its format and the operation it makes (R86). -/
def mnemonics : List (String × Format × (Byte → Byte → Instr)) := [
  ("C.NOP", .n, fun _ _ => .cNop), ("C.STATUS", .n, fun _ _ => .cStatus),
  ("C.INFO", .n, fun _ _ => .cInfo), ("RX.BYTE", .a, fun a _ => .rxByte a),
  ("RX.STAT", .n, fun _ _ => .rxStat), ("RX.CMD", .n, fun _ _ => .rxCmd),
  ("RX.LEN", .n, fun _ _ => .rxLen), ("RX.DATA", .a, fun a _ => .rxData a),
  ("RX.ACK", .n, fun _ _ => .rxAck), ("TX.CMD", .ab, fun a b => .txCmd a b),
  ("TX.DATA", .a, fun a _ => .txData a), ("TX.ERR", .ab, fun a b => .txErr a b),
  ("TX.BYTE", .a, fun a _ => .txByte a), ("TX.END", .n, fun _ _ => .txEnd),
  ("TX.DRAIN", .n, fun _ _ => .txDrain), ("TX.FLUSH", .n, fun _ _ => .txFlush),
  ("Q.PUSH", .a, fun a _ => .qPush a), ("Q.PUSH16", .d, fun _ _ => .qPush16),
  ("Q.PUSH32", .d, fun _ _ => .qPush32), ("Q.PUSH64", .d, fun _ _ => .qPush64),
  ("Q.POP", .n, fun _ _ => .qPop), ("Q.SPACE", .n, fun _ _ => .qSpace),
  ("Q.AVAIL", .n, fun _ _ => .qAvail), ("Q.CLEAR", .n, fun _ _ => .qClear),
  ("Q.PUSHBIT", .bit, fun a _ => .qPushBit a), ("Q.FLUSHBITS", .n, fun _ _ => .qFlushBits),
  ("Q.RBEGIN", .n, fun _ _ => .qRBegin), ("Q.REND", .n, fun _ _ => .qREnd),
  ("Q.SETDLEN", .a, fun a _ => .qSetDLen a), ("T.START", .n, fun _ _ => .tStart),
  ("T.NOW", .n, fun _ _ => .tNow), ("T.OVFSVC", .n, fun _ _ => .tOvfSvc)]

/-- An operation line: its operands as its format wants them (R89). -/
def assembleOp (f : Format) (make : Byte → Byte → Instr) (ws : List (List Char)) :
    Option (List ClientAct) :=
  match f with
  | .n => if ws.isEmpty then some [.op (make 0 0)] else none
  | .a =>
    match operandList 256 ws with
    | some [x] => some [.op (make (BitVec.ofNat 8 x) 0)]
    | _ => none
  | .bit =>
    match operandList 2 ws with
    | some [x] => some [.op (make (BitVec.ofNat 8 x) 0)]
    | _ => none
  | .ab =>
    match operandList 256 ws with
    | some [x, y] => some [.op (make (BitVec.ofNat 8 x) (BitVec.ofNat 8 y))]
    | _ => none
  | .d =>
    match operandList (2 ^ 64) ws with
    | some [x] => some [.din (BitVec.ofNat 64 x), .op (make 0 0)]
    | _ => none

/-- A pseudo-instruction's operations, its operands being bytes (R90). -/
def assemblePseudo (m : List Char) (vs : List Nat) : Option (List Instr) :=
  let bytes := vs.map (BitVec.ofNat 8)
  if m = "TX.FRAME".toList then
    match bytes with
    | c :: bs => txFrame c bs
    | [] => none
  else if m = "TX.DFRAME".toList then txDFrame bytes
  else if m = "TX.ERROR".toList then
    match bytes with
    | c :: es => txError c es
    | [] => none
  else if m = "Q.DIGITAL".toList then
    if vs.all (fun v => decide (v < 2)) then some (qDigital (vs.map (fun v => v == 1))) else none
  else none

/-- The mnemonic, whatever its case, and its operand words (R89). -/
def assembleWords (m : List Char) (ws : List (List Char)) : Option (List ClientAct) :=
  let up := m.map Char.toUpper
  match mnemonics.find? (fun r => r.1.toList = up) with
  | some (_, f, make) => assembleOp f make ws
  | none =>
    match operandList 256 ws with
    | some vs => (assemblePseudo up vs).map (·.map ClientAct.op)
    | none => none

/-- The port a `P0:` to `P3:` prefix names (R89). -/
def portPrefix (w : List Char) : Option Port :=
  match w with
  | [p, d, ':'] =>
    if p = 'P' ∨ p = 'p' then
      if d = '0' then some .p0 else if d = '1' then some .p1
      else if d = '2' then some .p2 else if d = '3' then some .p3 else none
    else none
  | _ => none

/-- One line: the port it names, if it does, and what that port's client does. A line with no
operation does nothing (R89). -/
def assembleLine (line : List Char) : Option (Option Port × List ClientAct) :=
  match splitLine [] line with
  | [] => some (none, [])
  | w :: ws =>
    match portPrefix w, ws with
    | some p, m :: rest => (assembleWords m rest).map fun a => (some p, a)
    | some p, [] => some (some p, [])
    | none, _ => (assembleWords w ws).map fun a => (none, a)

end Sys2Proof.Machine
end

