-- ==== Sys2Proof/Tests/Slice0.lean ====
section
/-! SUPPORT. Tests of the model: ill-formed terms are refused, words written out bit by bit from
30_encoding.md R80 and R86 decode to their operations, single steps give what the examples of the rules
and the vectors of 95_test_vectors.md say, and every hypothesis of a statement is met by some state. -/

namespace Sys2Proof.Tests

open Sys2Proof Sys2Proof.Machine

/-! Ill-formed terms -/

theorem test_pushBit_operand_is_one_bit :
    (Instr.qPushBit 2).wellFormed = false ∧ (Instr.qPushBit 0x80).wellFormed = false := by decide

theorem test_params_too_small_queue : ¬Params.Legal ⟨1023, .narrow, 16⟩ := by decide

theorem test_params_too_large_queue : ¬Params.Legal ⟨32769, .narrow, 16⟩ := by decide

theorem test_params_width_zero : ¬Params.Legal ⟨1024, .narrow, 0⟩ := by decide

theorem test_params_width_64 : ¬Params.Legal ⟨1024, .chained, 64⟩ := by decide

/-! Decoding: UNIT, FN, A, B, Z from the left (R80) -/

theorem test_decode_cNop : decode 0b0000_0000_00000000_00000000_00000000#32 = .ok .cNop := rfl
theorem test_decode_cStatus : decode 0b0000_0001_00000000_00000000_00000000#32 = .ok .cStatus := rfl
theorem test_decode_cInfo : decode 0b0000_0010_00000000_00000000_00000000#32 = .ok .cInfo := rfl
theorem test_decode_rxByte :
    decode 0b0001_0000_00100001_00000000_00000000#32 = .ok (.rxByte 0x21) := rfl
theorem test_decode_rxStat : decode 0b0001_0001_00000000_00000000_00000000#32 = .ok .rxStat := rfl
theorem test_decode_rxCmd : decode 0b0001_0010_00000000_00000000_00000000#32 = .ok .rxCmd := rfl
theorem test_decode_rxLen : decode 0b0001_0011_00000000_00000000_00000000#32 = .ok .rxLen := rfl
theorem test_decode_rxData :
    decode 0b0001_0100_11111110_00000000_00000000#32 = .ok (.rxData 254) := rfl
theorem test_decode_rxAck : decode 0b0001_0101_00000000_00000000_00000000#32 = .ok .rxAck := rfl
theorem test_decode_txCmd :
    decode 0b0010_0000_01010110_00000010_00000000#32 = .ok (.txCmd 0x56 2) := rfl
theorem test_decode_txData :
    decode 0b0010_0001_10000001_00000000_00000000#32 = .ok (.txData 0x81) := rfl
theorem test_decode_txErr :
    decode 0b0010_0010_00000001_10000000_00000000#32 = .ok (.txErr 1 0x80) := rfl
theorem test_decode_txByte :
    decode 0b0010_0011_01000001_00000000_00000000#32 = .ok (.txByte 0x41) := rfl
theorem test_decode_txEnd : decode 0b0010_0100_00000000_00000000_00000000#32 = .ok .txEnd := rfl
theorem test_decode_txDrain : decode 0b0010_0101_00000000_00000000_00000000#32 = .ok .txDrain := rfl
theorem test_decode_txFlush : decode 0b0010_0110_00000000_00000000_00000000#32 = .ok .txFlush := rfl
theorem test_decode_qPush :
    decode 0b0011_0000_01000001_00000000_00000000#32 = .ok (.qPush 0x41) := rfl
theorem test_decode_qPush16 : decode 0b0011_0001_00000000_00000000_00000000#32 = .ok .qPush16 := rfl
theorem test_decode_qPush32 : decode 0b0011_0010_00000000_00000000_00000000#32 = .ok .qPush32 := rfl
theorem test_decode_qPush64 : decode 0b0011_0011_00000000_00000000_00000000#32 = .ok .qPush64 := rfl
theorem test_decode_qPop : decode 0b0011_0100_00000000_00000000_00000000#32 = .ok .qPop := rfl
theorem test_decode_qSpace : decode 0b0011_0101_00000000_00000000_00000000#32 = .ok .qSpace := rfl
theorem test_decode_qAvail : decode 0b0011_0110_00000000_00000000_00000000#32 = .ok .qAvail := rfl
theorem test_decode_qClear : decode 0b0011_0111_00000000_00000000_00000000#32 = .ok .qClear := rfl
theorem test_decode_qPushBit :
    decode 0b0011_1000_00000001_00000000_00000000#32 = .ok (.qPushBit 1) := rfl
theorem test_decode_qFlushBits :
    decode 0b0011_1001_00000000_00000000_00000000#32 = .ok .qFlushBits := rfl
theorem test_decode_qRBegin : decode 0b0011_1010_00000000_00000000_00000000#32 = .ok .qRBegin := rfl
theorem test_decode_qREnd : decode 0b0011_1011_00000000_00000000_00000000#32 = .ok .qREnd := rfl
theorem test_decode_qSetDLen :
    decode 0b0011_1100_00000111_00000000_00000000#32 = .ok (.qSetDLen 7) := rfl
theorem test_decode_tStart : decode 0b0100_0000_00000000_00000000_00000000#32 = .ok .tStart := rfl
theorem test_decode_tNow : decode 0b0100_0001_00000000_00000000_00000000#32 = .ok .tNow := rfl
theorem test_decode_tOvfSvc : decode 0b0100_0010_00000000_00000000_00000000#32 = .ok .tOvfSvc := rfl

/-- Every way a word is illegal (R87): the first and last reserved UNIT, a reserved FN of each unit, a
nonzero bit in each field a format fixes. -/
theorem test_decode_illegal :
    decode 0b0101_0000_00000000_00000000_00000000#32 = .error .reservedUnit ∧
    decode 0b1111_1111_11111111_11111111_11111111#32 = .error .reservedUnit ∧
    decode 0b0000_0011_00000000_00000000_00000000#32 = .error .reservedFn ∧
    decode 0b0001_0110_00000000_00000000_00000000#32 = .error .reservedFn ∧
    decode 0b0010_0111_00000000_00000000_00000000#32 = .error .reservedFn ∧
    decode 0b0011_1101_00000000_00000000_00000000#32 = .error .reservedFn ∧
    decode 0b0100_0011_00000000_00000000_00000000#32 = .error .reservedFn ∧
    decode 0b0010_0000_01010110_00000010_00000001#32 = .error .nonzeroField ∧
    decode 0b0011_0000_01000001_10000000_00000000#32 = .error .nonzeroField ∧
    decode 0b0011_0001_00000001_00000000_00000000#32 = .error .nonzeroField ∧
    decode 0b0011_1000_00000010_00000000_00000000#32 = .error .nonzeroField :=
  ⟨rfl, rfl, rfl, rfl, rfl, rfl, rfl, rfl, rfl, rfl, rfl⟩

/-- The table's numbering has one 32-bit word, bit 0 the least significant. -/
theorem test_decodeTableWord :
    decodeTableWord 32 0x3C070000 = some (.qSetDLen 7) ∧ decodeTableWord 32 0x3C070001 = none :=
  ⟨rfl, rfl⟩

/-! Helpers: the state after one operation or one step, if there is one -/

/-- The state after one operation on the granted port. -/
def after (i : Instr) (s : State) : Option State :=
  match exec i s with
  | .next t => some t
  | _ => none

/-- The state after one step. -/
def stepped (s : State) : Option State :=
  match step s with
  | .next t => some t
  | _ => none

/-- The granted port's result register after one operation. -/
def result (i : Instr) (s : State) : Option Data := (after i s).map fun t => t.dout.get s.grant

/-- The fault code after one operation. -/
def faultOf (i : Instr) (s : State) : Option Byte := (after i s).map State.faultCode

/-- The reset state with a frame `'!' 'C' 2 9 1` held (41_frame_rx.md R135). -/
def heldFrame : State :=
  { State.reset with rxValid := true, rxcmdr := 0x43, rxlenr := 2, rxk := 2, rxbuf := [(0, 9), (1, 1)] }

/-- The reset state with a frame of `n` owed bytes and sum `sum` open on port 0. -/
def openFrame (n sum : Byte) : State :=
  { State.reset with txOpen := true, txrem := n, txsum := sum }

/-- The reset state with an open record of port 0: length 7, `k` bytes pushed, all zero. -/
def openRecord (k : Nat) : State :=
  { State.reset with
    datalen := 7
    recOpen := true
    recCount := BitVec.ofNat 9 k
    head := BitVec.ofNat 15 k
    wroteLast := decide (0 < k) }

/-- The reset state with `k` zero bytes queued from index 0 on. -/
def queued (k : Nat) : State :=
  { State.reset with head := BitVec.ofNat 15 (k % 1024), wroteLast := decide (0 < k) }

/-- The counter running. -/
def running : State := { State.reset with run := true, ovfie := true }

/-- The counter running with TSVAR = CHAINED. -/
def chained : State :=
  { State.resetWith ⟨1024, .chained, 16⟩ with run := true, ovfie := true }

/-- A recorded Q_UNDERFLOW of port 1 (40_control.md R121). -/
def faulty : State :=
  { State.reset with
    faulted := true
    faultCode := 0x03
    faultOp := 0x34000000
    faultPort := .p1 }

/-! One step of each operation -/

/-- R120: from any state, C.NOP changes no state. -/
theorem test_cNop : (after .cNop faulty).map (fun t => (t.dout, t.faultCode, t.opIndex)) =
    some (faulty.dout, 0x03, ⟨1, 0, 0, 0⟩) := by decide

/-- R121's example. -/
theorem test_cStatus : result .cStatus faulty = some 0x3400000001000103 := by decide

/-- 95_test_vectors.md: after T.START, the word shows RUN, OVFIE and the queued byte's WROTE_LAST. -/
theorem test_cStatus_running : result .cStatus { running with head := 1, wroteLast := true } =
    some 0x0000000004008200 := by decide

/-- R122's example: DATALEN 7 and REC_COUNT 4. -/
theorem test_cInfo : (result .cInfo (openRecord 4)).map (·.extractLsb' 0 17) = some 0x00407 := by
  decide

/-- R131's example, its last byte: the sum is 0x100, the frame is held. -/
theorem test_rxByte_accepts :
    (after (.rxByte 0x89) { State.reset with rxst := .chk, rxsum := 0x77, rxcmdr := 0x56 }).map
      (fun t => (t.rxValid, t.rxst)) = some (true, .hunt) := by decide

/-- R131: RX.BYTE holds while a frame is held, and the port does not advance. -/
theorem test_rxByte_holds :
    (after (.rxByte 0x21) heldFrame).map (fun t => (t.rxst, t.opIndex.p0)) = some (.hunt, 0) := by
  decide

/-- R132: [0] RX_VALID, [3:1] RXST, [15:8] RXK. -/
theorem test_rxStat : result .rxStat heldFrame = some 0x0201 := by decide

theorem test_rxStat_payload :
    result .rxStat { State.reset with rxst := .payload, rxlenr := 9, rxk := 5 } = some 0x0506 := by
  decide

theorem test_rxCmd : result .rxCmd heldFrame = some 0x43 := by decide

theorem test_rxCmd_none : faultOf .rxCmd State.reset = some 0x0A := by decide

theorem test_rxLen : result .rxLen heldFrame = some 2 := by decide

/-- R135's example. -/
theorem test_rxData : result (.rxData 1) heldFrame = some 0x01 := by decide

theorem test_rxData_range : faultOf (.rxData 2) heldFrame = some 0x0B := by decide

theorem test_rxAck : (after .rxAck heldFrame).map (fun t => (t.rxValid, t.rxst)) =
    some (false, .hunt) := by decide

/-- R151's example: 'V', 2 leaves the sum 0x79. -/
theorem test_txCmd : (after (.txCmd 0x56 2) State.reset).map (fun t => (t.txout, t.txsum, t.txrem)) =
    some ([.byte 0x21, .byte 0x56, .byte 2], 0x79, 2) := by decide

theorem test_txCmd_nested : faultOf (.txCmd 0x56 2) (openFrame 1 0) = some 0x07 := by decide

/-- R152's example, its header. -/
theorem test_txData : (after (.txData 1) State.reset).map (fun t => (t.txout, t.txsum)) =
    some ([.byte 0x2A, .byte 1], 0x2B) := by decide

/-- R153's example, its header: 0x21 0x45 0x02 0x01. -/
theorem test_txErr : (after (.txErr 1 1) State.reset).map (fun t => (t.txout, t.txrem)) =
    some ([.byte 0x21, .byte 0x45, .byte 2, .byte 1], 1) := by decide

theorem test_txErr_range : faultOf (.txErr 1 255) State.reset = some 0x09 := by decide

/-- R154's example. -/
theorem test_txByte : (after (.txByte 0x41) (openFrame 2 0x79)).map
    (fun t => (t.txout, t.txsum, t.txrem)) = some ([.byte 0x41], 0xBA, 1) := by decide

theorem test_txByte_spent : faultOf (.txByte 0x41) (openFrame 0 0x79) = some 0x08 := by decide

/-- R152's example, its end: 0x2A + 0x01 + 0x05 + 0xD0 = 0x100. -/
theorem test_txEnd : (after .txEnd (openFrame 0 0x30)).map (fun t => (t.txout, t.txOpen)) =
    some ([.byte 0xD0], false) := by decide

theorem test_txEnd_owing : faultOf .txEnd (openFrame 1 0x30) = some 0x08 := by decide

/-- R156: one queued byte 5 as the data frame of R152's example. -/
theorem test_txDrain : (after .txDrain { queued 1 with datalen := 1, qbuf := [(0, 5)] }).map
    (fun t => (t.txout, t.tail)) =
    some ([.byte 0x2A, .byte 1, .byte 5, .byte 0xD0], 1) := by decide

theorem test_txDrain_short : result .txDrain { queued 1 with datalen := 2 } = some 0 := by decide

theorem test_txFlush : (after .txFlush (openFrame 1 0)).map State.txout = some [.flush] := by decide

/-- R183's example. -/
theorem test_qPush : (after (.qPush 0x41) State.reset).map (fun t => (t.qbuf, t.head, t.wroteLast)) =
    some ([(0, 0x41)], 1, true) := by decide

theorem test_qPush_full : faultOf (.qPush 0x41) (queued 1024) = some 0x02 := by decide

/-- R184's example: 0x23, then 0x01. -/
theorem test_qPush16 : (after .qPush16 { State.reset with din := ⟨0x0123, 0, 0, 0⟩ }).map State.qbuf =
    some [(0, 0x23), (1, 0x01)] := by decide

/-- R184: with SPACE = 1 it faults and writes nothing. -/
theorem test_qPush16_one_free : faultOf .qPush16 (queued 1023) = some 0x02 := by decide

/-- R185's example. -/
theorem test_qPush32 :
    (after .qPush32 { State.reset with din := ⟨0x89ABCDEF, 0, 0, 0⟩ }).map State.qbuf =
    some [(0, 0xEF), (1, 0xCD), (2, 0xAB), (3, 0x89)] := by decide

/-- R186: from HEAD = N - 3, bytes 0 to 2 go to N - 3 to N - 1 and bytes 3 to 7 to 0 to 4. -/
theorem test_qPush64_wraps :
    (after .qPush64 { State.reset with head := 1021, tail := 1021, din := ⟨0x0807060504030201, 0, 0, 0⟩ }).map
      (fun t => (t.head, t.qbuf)) =
    some (5, [(0, 4), (1, 5), (2, 6), (3, 7), (4, 8), (1021, 1), (1022, 2), (1023, 3)]) := by decide

/-- R187's example. -/
theorem test_qPop : (after .qPop { queued 1 with qbuf := [(0, 0x41)] }).map
    (fun t => (t.dout.p0, t.tail, t.wroteLast)) = some (0x41, 1, false) := by decide

theorem test_qPop_empty : faultOf .qPop State.reset = some 0x03 := by decide

/-- R189's example. -/
theorem test_qSpace : result .qSpace State.reset = some 1024 := by decide

theorem test_qSpace_full : result .qSpace (queued 1024) = some 0 := by decide

/-- R190's example. -/
theorem test_qAvail : result .qAvail State.reset = some 0 ∧ result .qAvail (queued 1) = some 1 := by
  decide

/-- R191: the indices and the accumulator, not the bytes. -/
theorem test_qClear : (after .qClear { queued 5 with bitacc := 5, bitcnt := 3, qbuf := [(0, 7)] }).map
    (fun t => (t.head, t.bitacc, t.qbuf)) = some (0, 0, [(0, 7)]) := by decide

theorem test_qClear_record : faultOf .qClear (openRecord 0) = some 0x04 := by decide

/-- R192's example, its third bit. -/
theorem test_qPushBit :
    (after (.qPushBit 1) { State.reset with bitacc := 1, bitcnt := 2 }).map
      (fun t => (t.bitacc, t.bitcnt)) = some (0x05, 3) := by decide

/-- R192: the eighth bit clears position 7 and pushes the updated byte. -/
theorem test_qPushBit_eighth :
    (after (.qPushBit 0) { State.reset with bitacc := 0xFF, bitcnt := 7 }).map
      (fun t => (t.qbuf, t.bitacc, t.bitcnt)) = some ([(0, 0x7F)], 0x7F, 0) := by decide

/-- R193's example. -/
theorem test_qFlushBits : (after .qFlushBits { State.reset with bitacc := 5, bitcnt := 3 }).map
    (fun t => (t.qbuf, t.bitcnt, t.bitacc)) = some ([(0, 5)], 0, 5) := by decide

theorem test_qFlushBits_none : (after .qFlushBits State.reset).map State.head = some 0 := by decide

/-- R194's example: SPACE 4 under DATALEN 255 drops the sample. -/
theorem test_qRBegin_drops :
    (after .qRBegin { queued 1020 with datalen := 255, dout := ⟨9, 0, 0, 0⟩ }).map
      (fun t => (t.dout.p0, t.recOpen)) = some (0, false) := by decide

theorem test_qRBegin_unset : faultOf .qRBegin State.reset = some 0x06 := by decide

/-- R195's example: REC_COUNT 6 and one bit pending close a record of 7. -/
theorem test_qREnd : (after .qREnd { openRecord 6 with bitacc := 1, bitcnt := 1 }).map
    (fun t => (t.qbuf, t.recOpen, t.recCount)) = some ([(6, 1)], false, 0) := by decide

theorem test_qREnd_short : faultOf .qREnd (openRecord 6) = some 0x05 := by decide

/-- R196's example. -/
theorem test_qSetDLen : (after (.qSetDLen 7) State.reset).map State.datalen = some 7 := by decide

/-- R222's example. -/
theorem test_tStart : (after .tStart State.reset).map (fun t => (t.run, t.ovfie, t.chraw)) =
    some (true, true, 0xFFFFFFFFFFFFFFFF) := by decide

/-- R223's example. -/
theorem test_tNow_chained :
    result .tNow { chained with chraw := 0xFFFFFFFFFFFFFFFA } = some 5 := by decide

/-- R224: a wrap after PH1, sampled in the lower half, is counted: (0 + 1) · 2^16 + 2. -/
theorem test_tNow_ph3 :
    result .tNow { running with nowPhase := .ph2, ovf := true, cnt := 2, nowV := 2 } =
      some 0x10002 := by decide

/-- R227's example. -/
theorem test_tOvfSvc : (after .tOvfSvc { running with ovf := true }).map
    (fun t => (t.tally, t.ovf)) = some (1, false) := by decide

/-- R231: the wrap from all ones. -/
theorem test_tick_wraps : (stepped { running with cnt := 0xFFFF, ovf := true, sched := [.tick] }).map
    (fun t => (t.cnt, t.ovf, t.ovfLost)) = some (0, true, true) := by decide

/-- R264: an illegal word from reset records its code, word and port. -/
theorem test_illegal_word :
    (stepped { State.reset with ops := ⟨[], [], [], [0x50000001]⟩, sched := [.turn .p3] }).map
      (fun t => (t.faultCode, t.faultOp, t.faultPort)) = some (0x01, 0x50000001, .p3) := by decide

/-- R290: a reset keeps the buffers' bytes and abandons a held operation (log 6 and 7). -/
theorem test_reset_event :
    (stepped { heldFrame with outstanding := ⟨false, false, false, true⟩, sched := [.reset] }).map
      (fun t => (t.rxValid, t.rxbuf, t.opIndex.p3)) = some (false, [(0, 9), (1, 1)], 1) := by decide

/-- `withFetchWord` runs its word at the next step. -/
theorem test_withFetchWord :
    (stepped (State.reset.withFetchWord 32 0x3C070000)).map State.datalen = some 7 := by decide

/-- A decimal number, a hexadecimal one and a character as operands (R89). -/
theorem test_operands :
    operandValue ['6', '5'] = some 65 ∧ operandValue ['0', 'x', '4', '1'] = some 65 ∧
      operandValue ['\'', 'A', '\''] = some 65 := by decide

theorem test_core_reset : Sys2Proof.core.reset = State.reset := rfl

/-! Witnesses: states and operands that meet a statement's hypotheses, each clause's at the boundary of
its range. The name after `wit_` is the statement's. -/

-- `State.Wf` is a conjunction too long for the default size of an instance problem.
set_option synthInstance.maxSize 8000

/-- Port 0 has the word next, and its turn is next. -/
def turnOf (s : State) (w : OpWord) : State :=
  { s with ops := ⟨[w], [], [], []⟩, sched := [.turn .p0] }

/-- The step of a T.NOW of port 0 after the phase `ph`, sampled value `v`. -/
def inWindow (ph : NowPhase) (v : Data) : State :=
  { running with
    nowPhase := ph
    nowV := v
    ops := ⟨[0x41000000], [], [], []⟩
    outstanding := ⟨true, false, false, false⟩ }

theorem wit_DecodeInvertsEncode :
    (Instr.qPushBit 0).wellFormed = true ∧ (Instr.qPushBit 1).wellFormed = true ∧
      (Instr.txErr 255 255).wellFormed = true := by decide

theorem wit_EncodeInvertsDecode : ∃ i, decode 0x2000FF00 = .ok i := ⟨_, rfl⟩

theorem wit_LegalWordsAreTheTable :
    legal 0x38010000 = true ∧ legal 0x38020000 = false ∧ legal 0x50000000 = false := by decide

theorem wit_StepRunsDecodedOperation : ∃ s : State, s.sched = .turn .p0 :: [] ∧
    s.currentOp .p0 = some 0x34000000 ∧ decode 0x34000000 = .ok .qPop :=
  ⟨turnOf State.reset 0x34000000, rfl, rfl, rfl⟩

theorem wit_IllegalWordRaisesIllegalOp : ∃ s u : State,
    s.sched = .turn .p0 :: [] ∧ s.currentOp .p0 = some 0x34000001 ∧ s.faulted = false ∧
    u.sched = .turn .p0 :: [] ∧ u.currentOp .p0 = some 0x34000001 ∧ u.faulted = true ∧
    decode 0x34000001 = .error .nonzeroField :=
  ⟨turnOf State.reset 0x34000001, turnOf faulty 0x34000001, rfl, rfl, rfl, rfl, rfl, rfl, rfl⟩

theorem wit_ClientEventsTouchOnlyTheirOwn :
    State.reset.sched = [] ∧
    (∃ s : State, s.sched = .turn .p2 :: [] ∧ s.currentOp .p2 = none) ∧
    ∃ s : State, s.sched = .setDin .p3 7 :: [.tick] :=
  ⟨rfl, ⟨{ State.reset with sched := [.turn .p2] }, rfl, rfl⟩,
    ⟨{ State.reset with sched := [.setDin .p3 7, .tick] }, rfl⟩⟩

theorem wit_StepKeepsParameters : ∃ t, step (turnOf State.reset 0x40000000) = .next t := ⟨_, rfl⟩

/-- One that completes, one that holds, one between its steps. -/
theorem wit_OnlyTheGrantedPortAdvances :
    (∃ t, exec .qPop (queued 1) = .next t ∧ t.opIndex.p0 = 1) ∧
    (∃ t, exec (.rxByte 0) heldFrame = .next t ∧ t.outstanding.p0 = true) ∧
    ∃ t, exec .tNow running = .next t ∧ t.outstanding.p0 = true :=
  ⟨⟨_, rfl, rfl⟩, ⟨_, rfl, rfl⟩, ⟨_, rfl, rfl⟩⟩

theorem wit_DoutIsWrittenByItsOwnPort :
    (∃ t, exec .qAvail { queued 1 with grant := .p1 } = .next t ∧ t.dout.p1 = 1) ∧
    writesDout .qPush16 = false ∧ ∃ t, exec .qPush16 State.reset = .next t :=
  ⟨⟨_, rfl, rfl⟩, rfl, ⟨_, rfl⟩⟩

theorem wit_ResetIsWellFormed : Params.Legal ⟨1024, .narrow, 1⟩ ∧ Params.Legal ⟨32768, .chained, 63⟩ := by
  decide

/-- A well-formed state in which much goes on: an open record, a held frame, an open frame, a T.NOW
between its steps. -/
def busy : State :=
  { inWindow .ph1 0 with
    datalen := 255
    recOpen := true
    recPort := .p1
    recCount := 8
    head := 8
    wroteLast := true
    bitcnt := 3
    bitacc := 0xF5
    txOpen := true
    txPort := .p2
    txsum := 0x79
    txrem := 2
    txout := [.byte 0x21, .flush, .byte 0x56, .byte 2]
    rxValid := true
    rxlenr := 255
    rxk := 255
    rxbuf := [(0, 1), (254, 2)] }

theorem wit_StepKeepsWellFormed : ∃ t,
    { busy with sched := [.turn .p0] }.Wf ∧ step { busy with sched := [.turn .p0] } = .next t :=
  ⟨_, by decide, rfl⟩

theorem wit_StepNeverStops : busy.Wf ∧ faulty.Wf ∧ chained.Wf := by decide

theorem wit_ResetEventRestoresTheRegisters : ∃ s : State, s.sched = .reset :: [] ∧
    s.outstanding.get .p0 = true ∧ s.outstanding.get .p1 = false :=
  ⟨{ busy with sched := [.reset] }, rfl, rfl, rfl⟩

theorem wit_FirstFaultIsPrecise : ∃ t,
    State.reset.faulted = false ∧ exec .qPop State.reset = .next t ∧ t.faulted = true :=
  ⟨_, rfl, rfl, rfl⟩

theorem wit_AfterFaultOnlyControlActs : faulty.faulted = true ∧ isControl (.qPush 1) = false ∧
    ¬(Instr.qPush 1 = .tNow ∧ faulty.cfg.tsvar = .narrow ∧ faulty.nowPhase ≠ .idle ∧
      faulty.nowPort = faulty.grant) := by decide

/-- A T.NOW not begun before the fault is consumed too. -/
theorem wit_AfterFaultOnlyControlActs_tNow : faulty.faulted = true ∧ isControl .tNow = false ∧
    ¬(Instr.tNow = .tNow ∧ faulty.cfg.tsvar = .narrow ∧ faulty.nowPhase ≠ .idle ∧
      faulty.nowPort = faulty.grant) := by decide

theorem wit_FaultRegistersLastUntilReset : ∃ t, faulty.faulted = true ∧
    (turnOf faulty 0x34000000).sched.head? ≠ some .reset ∧
    step (turnOf faulty 0x34000000) = .next t :=
  ⟨_, rfl, by decide, rfl⟩

theorem wit_HeldOperationsChangeNothing :
    (heldFrame.faulted = false ∧ heldFrame.rxValid = true) ∧
    ((inWindow .ph1 0).faulted = false ∧ (inWindow .ph1 0).nowPhase ≠ .idle) ∧
    ∃ s : State, s.faulted = false ∧ s.nowPhase ≠ .idle ∧ s.cfg.tsvar = .narrow ∧ s.nowPort ≠ s.grant :=
  ⟨by decide, by decide, { inWindow .ph2 0 with grant := .p3 }, by decide⟩

theorem wit_CStatusGivesTheStatusWord : faulty.cfg.tsvar = .narrow ∧ chained.cfg.tsvar = .chained :=
  ⟨rfl, rfl⟩

/-- The decoder in a state, no frame held. -/
def decoding (r : RxState) (len k : Byte) : State :=
  { State.reset with rxst := r, rxlenr := len, rxk := k }

/-- Every decoder state but PAYLOAD; a start byte and its neighbour; a length 0 and 255. -/
theorem wit_RxByteOutsideThePayload : ∀ r : RxState, (decoding r 0 0).faulted = false ∧
    (decoding r 0 0).rxValid = false ∧ (decoding r 0 0).rxst = r ∧ (0x20 : Byte) ≠ 0x21 :=
  fun _ => ⟨rfl, rfl, rfl, by decide⟩

/-- The first payload byte and the last of the longest payload. -/
theorem wit_RxByteStoresThePayload :
    ∀ k : Byte, k = 0 ∨ k = 254 → (decoding .payload 255 k).faulted = false ∧
      (decoding .payload 255 k).rxValid = false ∧ (decoding .payload 255 k).rxst = .payload ∧
      (decoding .payload 255 k).rxk.toNat < 255 ∧ (decoding .payload 255 k).rxbuf.wf = true := by
  rintro k (rfl | rfl) <;> decide

theorem wit_RxReadsAndReleasesTheHeldFrame : heldFrame.faulted = false ∧ heldFrame.rxValid = true ∧
    (0 : Byte).toNat < heldFrame.rxlenr.toNat ∧ (1 : Byte).toNat < heldFrame.rxlenr.toNat := by decide

theorem wit_RxFaultConditions : (State.reset.faulted = false ∧ State.reset.rxValid = false) ∧
    heldFrame.faulted = false ∧ heldFrame.rxValid = true ∧
    heldFrame.rxlenr.toNat ≤ (2 : Byte).toNat ∧ heldFrame.rxlenr.toNat ≤ (255 : Byte).toNat := by decide

/-- The empty payload and the longest. -/
theorem wit_RxAcceptsACorrectFrame : State.reset.faulted = false ∧ State.reset.rxst = .hunt ∧
    State.reset.rxValid = false ∧ State.reset.rxbuf.wf = true ∧ ([] : List Byte).length ≤ 255 ∧
    (List.replicate 255 (0xFF : Byte)).length ≤ 255 :=
  ⟨rfl, rfl, rfl, rfl, by decide, List.length_replicate.le⟩

theorem wit_RxDropsAWrongChecksum : State.reset.faulted = false ∧ State.reset.rxst = .hunt ∧
    State.reset.rxValid = false ∧ State.reset.rxbuf.wf = true ∧ ([5] : List Byte).length ≤ 255 ∧
    sumBytes (0x21 :: 0x43 :: BitVec.ofNat 8 1 :: [5] ++ [0x95]) ≠ 0 := by decide

/-- The command, the one payload and the checksum byte. -/
theorem wit_RxDropsASingleBitFlip : ∀ j k : Nat, j = 1 ∨ j = 3 ∨ j = 4 → k = 0 ∨ k = 7 →
    State.reset.faulted = false ∧ State.reset.rxst = .hunt ∧ State.reset.rxValid = false ∧
    State.reset.rxbuf.wf = true ∧ ([5] : List Byte).length ≤ 255 ∧ j < ([5] : List Byte).length + 4 ∧
    j ≠ 0 ∧ j ≠ 2 ∧ k < 8 := by
  rintro j k (rfl | rfl | rfl) (rfl | rfl) <;> decide

theorem wit_TxOpenersEmitTheHeader :
    State.reset.faulted = false ∧ State.reset.txOpen = false ∧ (254 : Byte) ≠ 255 := by decide

theorem wit_TxPayloadAndEnd :
    ((openFrame 1 9).faulted = false ∧ (openFrame 1 9).txOpen = true ∧
      (openFrame 1 9).txPort = (openFrame 1 9).grant ∧ (openFrame 1 9).txrem ≠ 0) ∧
    (openFrame 0 0).faulted = false ∧ (openFrame 0 0).txOpen = true ∧
      (openFrame 0 0).txPort = (openFrame 0 0).grant ∧ (openFrame 0 0).txrem = 0 := by decide

theorem wit_TxFlushAppendsAMarker : (openFrame 1 9).faulted = false := rfl

/-- No frame, another port's frame, a frame with nothing owed, one owing a byte, no record length. -/
theorem wit_TxFaultConditions :
    (State.reset.faulted = false ∧ State.reset.txOpen = false ∧ State.reset.datalen = 0) ∧
    ((openFrame 0 9).txOpen = true ∧ (openFrame 0 9).txPort = (openFrame 0 9).grant ∧
      (openFrame 0 9).txrem = 0) ∧ (openFrame 1 9).txrem ≠ 0 ∧
    (∃ s : State, s.faulted = false ∧ s.txOpen = true ∧ s.txPort ≠ s.grant) ∧
    ∃ s : State, s.faulted = false ∧ s.datalen ≠ 0 ∧ s.txOpen = true :=
  ⟨by decide, by decide, by decide, ⟨{ openFrame 1 9 with grant := .p1 }, by decide⟩,
    ⟨{ openFrame 0 9 with datalen := 1 }, by decide⟩⟩

/-- Exactly one record queued, and one byte fewer. -/
theorem wit_TxDrainSendsOneRecordOrNothing : ∀ k : Nat, k = 7 ∨ k = 6 →
    { queued k with datalen := 7 }.Wf ∧ { queued k with datalen := 7 }.faulted = false ∧
    { queued k with datalen := 7 }.datalen ≠ 0 ∧ { queued k with datalen := 7 }.txOpen = false ∧
    { queued k with datalen := 7 }.occ = k := by
  rintro k (rfl | rfl) <;> decide

/-- The longest payloads. -/
theorem wit_TxSequencesEmitWireFrames : State.reset.faulted = false ∧ State.reset.txOpen = false ∧
    (∃ l, txFrame 0x48 (List.replicate 255 1) = some l) ∧
    (∃ l, txDFrame (List.replicate 255 1) = some l) ∧ ∃ l, txError 2 (List.replicate 254 1) = some l :=
  ⟨rfl, rfl, ⟨_, if_pos List.length_replicate.le⟩, ⟨_, if_pos List.length_replicate.le⟩,
    ⟨_, if_pos List.length_replicate.le⟩⟩

theorem wit_ForeignPortCannotTouchAnOpenFrame : ∃ t,
    { openFrame 1 9 with grant := .p1 }.txOpen = true ∧
    { openFrame 1 9 with grant := .p1 }.grant ≠ { openFrame 1 9 with grant := .p1 }.txPort ∧
    exec .txFlush { openFrame 1 9 with grant := .p1 } = .next t :=
  ⟨_, rfl, by decide, rfl⟩

theorem wit_TxStreamOnlyGrows : ∃ t, (turnOf (openFrame 1 9) 0x23410000).sched.head? ≠ some .reset ∧
    step (turnOf (openFrame 1 9) 0x23410000) = .next t :=
  ⟨_, by decide, rfl⟩

/-- The push that fills the queue, and the one that fills a record. -/
theorem wit_QPushAppendsAByte :
    ((queued 1023).Wf ∧ (queued 1023).faulted = false ∧ PushFits (queued 1023) 1) ∧
    (openRecord 6).Wf ∧ (openRecord 6).faulted = false ∧ PushFits (openRecord 6) 1 := by decide

theorem wit_QWidePushesAreLittleEndian : ∀ k : Nat, k = 2 ∨ k = 4 ∨ k = 8 →
    (queued (1024 - k)).Wf ∧ (queued (1024 - k)).faulted = false ∧ PushFits (queued (1024 - k)) k := by
  rintro k (rfl | rfl | rfl) <;> decide

/-- Another port's record, a record one byte too full, a queue one byte too full, an empty queue. -/
theorem wit_PushAndPopFaultConditions : IsPush (.qPush 1) 1 ∧ IsPush .qPush16 2 ∧ IsPush .qPush64 8 ∧
    (∃ s : State, s.faulted = false ∧ s.recOpen = true ∧ s.grant ≠ s.recPort) ∧
    ((openRecord 6).recOpen = true ∧ (openRecord 6).grant = (openRecord 6).recPort ∧
      (openRecord 6).datalen.toNat < (openRecord 6).recCount.toNat + 2) ∧
    ((queued 1023).recOpen = false ∧ (queued 1023).space < 2) ∧ State.reset.occ = 0 :=
  ⟨.inl ⟨1, rfl, rfl⟩, .inr (.inl ⟨rfl, rfl⟩), .inr (.inr (.inr ⟨rfl, rfl⟩)),
    ⟨{ openRecord 6 with grant := .p1 }, by decide⟩, by decide, by decide, by decide⟩

/-- One byte queued, and a full queue. -/
theorem wit_QPopTakesTheOldestByte :
    ((queued 1).Wf ∧ (queued 1).faulted = false ∧ 0 < (queued 1).occ) ∧
    (queued 1024).Wf ∧ (queued 1024).faulted = false ∧ 0 < (queued 1024).occ := by decide

theorem wit_QSpaceAndAvailReportTheQueue : State.reset.Wf ∧ State.reset.faulted = false ∧
    (queued 1024).Wf ∧ (queued 1024).faulted = false ∧ (queued 1024).head = (queued 1024).tail := by
  decide

theorem wit_QClearAndSetDLen : (queued 5).faulted = false ∧ (queued 5).recOpen = false := by decide

/-- The seventh bit, and the eighth into a queue with one free byte. -/
theorem wit_QPushBitPacksLsbFirst :
    ({ openRecord 6 with bitcnt := 6 }.Wf ∧ { openRecord 6 with bitcnt := 6 }.faulted = false ∧
      { openRecord 6 with bitcnt := 6 }.bitcnt ≠ 7 ∧
      { openRecord 6 with bitcnt := 6 }.grant = { openRecord 6 with bitcnt := 6 }.recPort) ∧
    { queued 1023 with bitcnt := 7 }.Wf ∧ { queued 1023 with bitcnt := 7 }.faulted = false ∧
      { queued 1023 with bitcnt := 7 }.bitcnt = 7 ∧ PushFits { queued 1023 with bitcnt := 7 } 1 := by
  decide

/-- Nothing pending with a full queue, and one bit pending in a record with one byte to go. -/
theorem wit_QFlushBitsPushesAPartialByte :
    ((queued 1024).Wf ∧ (queued 1024).faulted = false ∧ (queued 1024).bitcnt = 0 ∧
      (queued 1024).recOpen = false) ∧
    { openRecord 6 with bitcnt := 1 }.Wf ∧ { openRecord 6 with bitcnt := 1 }.faulted = false ∧
      { openRecord 6 with bitcnt := 1 }.bitcnt ≠ 0 ∧ PushFits { openRecord 6 with bitcnt := 1 } 1 := by
  decide

/-- A record that exactly fills the queue, and one a byte too long. -/
theorem wit_QRBeginOpensOrDrops : ∀ k : Nat, k = 1017 ∨ k = 1018 →
    { queued k with datalen := 7 }.faulted = false ∧ { queued k with datalen := 7 }.datalen ≠ 0 ∧
    { queued k with datalen := 7 }.recOpen = false ∧ { queued k with datalen := 7 }.bitcnt = 0 ∧
    { queued k with datalen := 7 }.space = 1024 - k := by
  rintro k (rfl | rfl) <;> decide

theorem wit_QREndClosesAnExactRecord :
    ((openRecord 7).Wf ∧ (openRecord 7).faulted = false ∧ (openRecord 7).recOpen = true ∧
      (openRecord 7).grant = (openRecord 7).recPort ∧ (openRecord 7).bitcnt = 0 ∧
      (openRecord 7).recCount.toNat = (openRecord 7).datalen.toNat) ∧
    { openRecord 6 with bitcnt := 1 }.Wf ∧
      { openRecord 6 with bitcnt := 1 }.recCount.toNat + 1 =
        { openRecord 6 with bitcnt := 1 }.datalen.toNat := by decide

/-- An open record with bits to go, one that is full with bits pending, a full queue with bits pending. -/
theorem wit_RecordAndBitFaultConditions :
    ((openRecord 6).faulted = false ∧ (openRecord 6).recOpen = true ∧ (openRecord 6).datalen ≠ 0 ∧
      (openRecord 6).grant = (openRecord 6).recPort ∧
      (openRecord 6).recCount.toNat + (if (openRecord 6).bitcnt = 0 then 0 else 1) ≠
        (openRecord 6).datalen.toNat) ∧
    (State.reset.datalen = 0 ∧ State.reset.recOpen = false) ∧
    (∃ s : State, s.faulted = false ∧ s.datalen ≠ 0 ∧ s.recOpen = false ∧ s.bitcnt ≠ 0) ∧
    (∃ s : State, s.faulted = false ∧ s.recOpen = true ∧ s.grant ≠ s.recPort) ∧
    (∃ s : State, s.faulted = false ∧ s.recOpen = true ∧ s.grant = s.recPort ∧
      s.datalen.toNat < s.recCount.toNat + 1 ∧ s.bitcnt = 7) ∧
    ∃ s : State, s.faulted = false ∧ s.recOpen = false ∧ s.space = 0 ∧ s.bitcnt = 7 :=
  ⟨by decide, by decide, ⟨{ State.reset with datalen := 7, bitcnt := 1 }, by decide⟩,
    ⟨{ openRecord 6 with grant := .p1 }, by decide⟩, ⟨{ openRecord 7 with bitcnt := 7 }, by decide⟩,
    ⟨{ queued 1024 with bitcnt := 7 }, by decide⟩⟩

/-- Nine bits into the last two free bytes, and no bit at all. -/
theorem wit_DigitalBitsPackIntoBytes :
    (queued 1022).Wf ∧ (queued 1022).faulted = false ∧ (queued 1022).bitcnt = 0 ∧
    PushFits (queued 1022) (((List.replicate 9 true).length + 7) / 8) ∧
    PushFits (queued 1022) ((([] : List Bool).length + 7) / 8) := by decide

theorem wit_ForeignPortCannotTouchAnOpenRecord : ∃ t,
    { openRecord 6 with grant := .p1 }.recOpen = true ∧
    { openRecord 6 with grant := .p1 }.grant ≠ { openRecord 6 with grant := .p1 }.recPort ∧
    exec .qPop { openRecord 6 with grant := .p1 } = .next t :=
  ⟨_, rfl, by decide, rfl⟩

/-- One that takes and one that puts. -/
theorem wit_TheQueueIsFifo :
    ((queued 1024).Wf ∧ Instr.qPop ≠ .qClear ∧ ∃ t, exec .qPop (queued 1024) = .next t) ∧
    (queued 1023).Wf ∧ Instr.qPush 1 ≠ .qClear ∧ ∃ t, exec (.qPush 1) (queued 1023) = .next t :=
  ⟨⟨by decide, by decide, _, rfl⟩, by decide, by decide, _, rfl⟩

theorem wit_TStartArmsTheCounter : running.faulted = false ∧ running.nowPhase = .idle := by decide

/-- The chained read, each step of the narrow one, and both sides of the count at PH3: v at
2^(W-1) - 1 and at 2^(W-1). -/
theorem wit_TNowReadsTheTime :
    (chained.cfg.tsvar = .chained ∧ chained.faulted = false) ∧
    (running.cfg.tsvar = .narrow ∧ running.nowPhase = .idle ∧ running.faulted = false) ∧
    ((inWindow .ph1 0).nowPhase = .ph1 ∧ (inWindow .ph1 0).nowPort = (inWindow .ph1 0).grant) ∧
    (∃ s : State, s.cfg.tsvar = .narrow ∧ s.nowPhase = .ph2 ∧ s.nowPort = s.grant ∧ s.ovf = true ∧
      s.nowPre = false ∧ s.nowV.toNat < 2 ^ (s.cfg.w - 1)) ∧
    ∃ s : State, s.cfg.tsvar = .narrow ∧ s.nowPhase = .ph2 ∧ s.nowPort = s.grant ∧ s.nowPre = false ∧
      ¬(s.ovf = true ∧ s.nowV.toNat < 2 ^ (s.cfg.w - 1)) :=
  ⟨by decide, by decide, by decide, ⟨{ inWindow .ph2 0x7FFF with ovf := true }, by decide⟩,
    ⟨{ inWindow .ph2 0x8000 with ovf := true }, by decide⟩⟩

theorem wit_TNowComposesTallyAndCount : ∃ s : State, s.Wf ∧ s.cfg.tsvar = .narrow ∧
    s.nowPhase = .ph2 ∧ s.nowPort = s.grant ∧ s.nowV = 0xFFFF ∧ s.nowPre = true :=
  ⟨{ inWindow .ph2 0xFFFF with ovf := true, nowPre := true, tally := 0xFFFFFFFFFFFF }, by decide⟩

theorem wit_TOvfSvcCountsOnce :
    (∃ s : State, s.faulted = false ∧ s.nowPhase = .idle ∧ s.cfg.tsvar = .narrow ∧ s.ovf = true) ∧
    (running.faulted = false ∧ running.nowPhase = .idle ∧ running.ovf = false) ∧
    chained.faulted = false ∧ chained.nowPhase = .idle ∧ chained.cfg.tsvar = .chained :=
  ⟨⟨{ running with ovf := true }, by decide⟩, by decide, by decide⟩

/-- A stopped counter, a chained one, one at its last value and one just below. -/
theorem wit_TickStepsTheCounter :
    (∃ s : State, s.cfg.Legal ∧ s.sched = .tick :: [] ∧ s.run = false) ∧
    (∃ s : State, s.cfg.Legal ∧ s.sched = .tick :: [] ∧ s.run = true ∧ s.cfg.tsvar = .chained) ∧
    (∃ s : State, s.cfg.Legal ∧ s.sched = .tick :: [] ∧ s.run = true ∧ s.cfg.tsvar = .narrow ∧
      s.cnt.toNat = 2 ^ s.cfg.w - 1) ∧
    ∃ s : State, s.cfg.Legal ∧ s.sched = .tick :: [] ∧ s.run = true ∧ s.cfg.tsvar = .narrow ∧
      s.cnt.toNat < 2 ^ s.cfg.w - 1 :=
  ⟨⟨{ State.reset with sched := [.tick] }, by decide⟩, ⟨{ chained with sched := [.tick] }, by decide⟩,
    ⟨{ running with cnt := 0xFFFF, sched := [.tick] }, by decide⟩,
    ⟨{ running with cnt := 0xFFFE, sched := [.tick] }, by decide⟩⟩

/-- A tick that wraps with OVF clear and one just below the wrap with OVF set, both after an overflow was
lost, a tick while stopped, a T.START, another operation. -/
theorem wit_TimeValueCountsTicks :
    (∃ s t : State, s.Wf ∧ s.cfg.tsvar = .narrow ∧ s.sched = .tick :: [] ∧ step s = .next t ∧
      s.run = true ∧ ¬(s.ovf = true ∧ s.cnt.toNat = 2 ^ s.cfg.w - 1) ∧ s.cnt = 0xFFFF ∧
      s.ovfLost = true) ∧
    (∃ s t : State, s.Wf ∧ s.cfg.tsvar = .narrow ∧ s.sched = .tick :: [] ∧ step s = .next t ∧
      s.run = true ∧ ¬(s.ovf = true ∧ s.cnt.toNat = 2 ^ s.cfg.w - 1) ∧ s.ovf = true ∧
      s.ovfLost = true) ∧
    (∃ s t : State, s.Wf ∧ s.cfg.tsvar = .narrow ∧ s.sched = .tick :: [] ∧ step s = .next t ∧
      s.run = false) ∧
    (∃ s t : State, s.Wf ∧ s.cfg.tsvar = .narrow ∧ s.sched = .turn .p0 :: [] ∧ step s = .next t ∧
      s.currentOp .p0 = some (encode .tStart) ∧ s.faulted = false ∧ s.nowPhase = .idle) ∧
    ∃ s t : State, s.Wf ∧ s.cfg.tsvar = .narrow ∧ s.sched = .turn .p0 :: [] ∧ step s = .next t ∧
      s.currentOp .p0 = some (encode .tOvfSvc) ∧ s.ovf = true :=
  ⟨⟨{ running with cnt := 0xFFFF, ovfLost := true, sched := [.tick] }, _, by decide, rfl, rfl, rfl,
      rfl, by decide, rfl, rfl⟩,
    ⟨{ running with cnt := 0xFFFE, ovf := true, ovfLost := true, sched := [.tick] }, _, by decide, rfl,
      rfl, rfl, rfl, by decide, rfl, rfl⟩,
    ⟨{ State.reset with sched := [.tick] }, _, by decide, rfl, rfl, rfl, rfl⟩,
    ⟨turnOf running 0x40000000, _, by decide, rfl, rfl, rfl, rfl, rfl, rfl⟩,
    ⟨turnOf { running with ovf := true } 0x42000000, _, by decide, rfl, rfl, rfl, rfl, rfl⟩⟩

/-- A whole T.NOW of port 0 with a wrapping tick before its PH2 and another port's Q.PUSH after it. -/
def windowStart : State :=
  { running with
    cnt := 0xFFFF
    ops := ⟨[0x41000000], [0x30410000], [], []⟩
    sched := [.turn .p0, .tick, .turn .p0, .turn .p1, .turn .p0] }

theorem wit_TNowResultIsTheTrueCount : ∃ s1 s2 s3 s4 s5 : State, windowStart.Wf ∧
    windowStart.cfg.tsvar = .narrow ∧ windowStart.faulted = false ∧ windowStart.nowPhase = .idle ∧
    windowStart.sched.head? = some (.turn .p0) ∧
    windowStart.currentOp .p0 = some (encode .tNow) ∧
    step windowStart = .next s1 ∧ WindowRun .p0 1 s1 s2 ∧
    s2.sched.head? = some (.turn .p0) ∧ step s2 = .next s3 ∧ WindowRun .p0 0 s3 s4 ∧
    s4.sched.head? = some (.turn .p0) ∧ step s4 = .next s5 ∧
    1 + 0 ≤ 2 ^ (windowStart.cfg.w - 1) ∧ s4.ovfLost = false ∧ s5.dout.p0 = 0x10000 :=
  ⟨_, _, _, _, _, by decide, rfl, rfl, rfl, rfl, rfl, rfl, .tick (.refl _) rfl rfl, rfl, rfl,
    .other (.turn .p1) (.refl _) rfl (by decide) (by decide) (by decide) rfl, rfl, rfl, by decide,
    rfl, rfl⟩

/-- A chained counter; a wrapping tick; T.START and T.OVFSVC with a request pending; a PH3 that counts
what PH1 saw and one that counts a sample just below 2^(W-1); a fault of an operation and of an illegal
word; a step after a fault; a reset with both lines up. -/
theorem wit_InterruptLinesFollowTheFlags :
    (chained.Wf ∧ chained.cfg.tsvar = .chained) ∧
    (∃ s t : State, s.Wf ∧ s.cfg.tsvar = .narrow ∧ s.run = true ∧ s.cnt.toNat = 2 ^ s.cfg.w - 1 ∧
      s.sched.head? = some .tick ∧ step s = .next t) ∧
    (∃ s t u : State, s.Wf ∧ s.faulted = false ∧ s.nowPhase = .idle ∧ s.irqOvf = true ∧
      exec .tStart s = .next t ∧ exec .tOvfSvc s = .next u) ∧
    (∃ s t : State, s.Wf ∧ s.cfg.tsvar = .narrow ∧ s.nowPhase = .ph2 ∧ s.nowPort = s.grant ∧
      s.nowPre = true ∧ s.irqOvf = true ∧ exec .tNow s = .next t) ∧
    (∃ s t : State, s.Wf ∧ s.cfg.tsvar = .narrow ∧ s.nowPhase = .ph2 ∧ s.nowPort = s.grant ∧
      s.nowPre = false ∧ (s.ovf = true ∧ s.nowV.toNat < 2 ^ (s.cfg.w - 1)) ∧ s.irqOvf = true ∧
      exec .tNow s = .next t) ∧
    (∃ t, State.reset.faulted = false ∧ Faults .qPop State.reset .qUnderflow ∧
      exec .qPop State.reset = .next t) ∧
    (∃ s t : State, s.Wf ∧ s.faulted = false ∧ s.sched.head? = some (.turn .p0) ∧
      s.currentOp .p0 = some 0x34000001 ∧ decode 0x34000001 = .error .nonzeroField ∧
      step s = .next t) ∧
    (∃ s t : State, s.Wf ∧ s.irqFault = true ∧ s.sched.head? ≠ some .reset ∧ step s = .next t) ∧
    ∃ s t : State, s.Wf ∧ s.irqOvf = true ∧ s.irqFault = true ∧ s.sched.head? = some .reset ∧
      step s = .next t :=
  ⟨by decide,
    ⟨{ running with cnt := 0xFFFF, sched := [.tick] }, _, by decide, rfl, rfl, by decide, rfl, rfl⟩,
    ⟨{ running with ovf := true }, _, _, by decide, rfl, rfl, rfl, rfl, rfl⟩,
    ⟨{ inWindow .ph2 0xFFFF with ovf := true, nowPre := true }, _, by decide, rfl, rfl, rfl, rfl, rfl,
      rfl⟩,
    ⟨{ inWindow .ph2 0x7FFF with ovf := true }, _, by decide, rfl, rfl, rfl, rfl, by decide, rfl, rfl⟩,
    ⟨_, rfl, rfl, rfl⟩,
    ⟨turnOf State.reset 0x34000001, _, by decide, rfl, rfl, rfl, rfl, rfl⟩,
    ⟨turnOf faulty 0x34000000, _, by decide, rfl, by decide, rfl⟩,
    ⟨{ faulty with run := true, ovfie := true, ovf := true, sched := [.reset] }, _, by decide, rfl, rfl,
      rfl, rfl⟩⟩

end Sys2Proof.Tests
end

/-! PROOF. The registers right after reset (10_state.md R50), and the words STATUS and INFO that show the
registers to a client (R48, R49). -/

namespace Sys2Proof.Machine

/-! Reset -/

theorem State.resetWith_dout_get (c : Params) (p : Port) : (State.resetWith c).dout.get p = 0 := by
  cases p <;> rfl

/-- The groups are those of `ResetRegisters`: queue, record, counter, T.NOW with CHRAW, encoder, decoder,
fault registers, results. Only the results are one per port, so only they need a case split. -/
theorem State.resetWith_registers (c : Params) : ResetRegisters (State.resetWith c) :=
  ⟨⟨rfl, rfl, rfl, rfl, rfl⟩, ⟨rfl, rfl, rfl, rfl⟩, ⟨rfl, rfl, rfl, rfl, rfl, rfl⟩,
    ⟨rfl, rfl, rfl, rfl, rfl⟩, ⟨rfl, rfl, rfl, rfl, rfl⟩, ⟨rfl, rfl, rfl, rfl, rfl, rfl⟩,
    ⟨rfl, rfl, rfl, rfl⟩, State.resetWith_dout_get c⟩

/-! The two reads. A CTL operation goes to `finish` without the issue check, so FAULTED plays no part
(60_exceptions.md R264). -/

theorem exec_cStatus (s : State) :
    exec .cStatus s = .next ((s.setDout s.statusWord).complete s.grant) := rfl

theorem exec_cInfo (s : State) :
    exec .cInfo s = .next ((s.setDout s.infoWord).complete s.grant) := rfl

/-! The layouts. Both words are written from the top field down. The append lemmas pass over a low field,
taking its width off the position, until the field to be read is the lowest; what is left of the word
lies above it. -/

/-- The one-bit fields of STATUS (R48); bit 13 is OVF, gated by TSVAR. -/
theorem State.statusWord_flags (s : State) :
    s.statusWord.getLsbD 8 = s.faulted ∧ s.statusWord.getLsbD 9 = s.wroteLast ∧
    s.statusWord.getLsbD 10 = s.recOpen ∧ s.statusWord.getLsbD 11 = s.txOpen ∧
    s.statusWord.getLsbD 12 = s.rxValid ∧
    s.statusWord.getLsbD 13 = (s.cfg.tsvar == .narrow && s.ovf) ∧
    s.statusWord.getLsbD 14 = s.ovfLost ∧ s.statusWord.getLsbD 15 = s.run ∧
    s.statusWord.getLsbD 26 = s.ovfie := by
  simp only [State.statusWord, BitVec.getLsbD_append, Nat.reduceLT, Nat.reduceSub, if_true, if_false,
    BitVec.getLsbD_ofBool, decide_true, Bool.true_and, and_self]

/-- With TSVAR = NARROW bit 13 of STATUS is OVF. -/
theorem State.statusWord_ovf_of_narrow (s : State) (narrow : s.cfg.tsvar = .narrow) :
    s.statusWord.getLsbD 13 = s.ovf := by
  obtain ⟨-, -, -, -, -, gated, -, -, -⟩ := s.statusWord_flags
  rw [gated, narrow, beq_self_eq_true, Bool.true_and]

/-- With TSVAR = CHAINED bit 13 of STATUS reads 0, whatever OVF holds. -/
theorem State.statusWord_ovf_of_chained (s : State) (chained : s.cfg.tsvar = .chained) :
    s.statusWord.getLsbD 13 = false := by
  obtain ⟨-, -, -, -, -, gated, -, -, -⟩ := s.statusWord_flags
  rw [gated, chained, beq_false_of_ne (by decide), Bool.false_and]

/-- The fields of STATUS wider than a bit (R48). -/
theorem State.statusWord_fields (s : State) :
    s.statusWord.extractLsb' 0 8 = s.faultCode ∧ s.statusWord.extractLsb' 16 3 = s.bitcnt ∧
    s.statusWord.extractLsb' 19 3 = s.rxst.bits ∧ s.statusWord.extractLsb' 22 2 = s.nowPhase.bits ∧
    s.statusWord.extractLsb' 24 2 = s.faultPort.bits ∧ s.statusWord.extractLsb' 27 5 = 0#5 ∧
    s.statusWord.extractLsb' 32 32 = s.faultOp := by
  simp (disch := omega) only [State.statusWord, BitVec.extractLsb'_append_eq_of_add_le,
    BitVec.extractLsb'_append_eq_of_le, Nat.reduceSub, BitVec.extractLsb'_eq_self, and_self]

/-- The fields of INFO (R49). -/
theorem State.infoWord_fields (s : State) :
    s.infoWord.extractLsb' 0 8 = s.datalen ∧ s.infoWord.extractLsb' 8 9 = s.recCount ∧
    s.infoWord.extractLsb' 17 2 = s.recPort.bits ∧ s.infoWord.extractLsb' 19 2 = s.txPort.bits ∧
    s.infoWord.extractLsb' 21 3 = 0#3 ∧ s.infoWord.extractLsb' 24 8 = s.txrem ∧
    s.infoWord.extractLsb' 32 8 = s.bitacc ∧ s.infoWord.extractLsb' 40 8 = s.txsum ∧
    s.infoWord.extractLsb' 48 8 = s.rxk ∧ s.infoWord.extractLsb' 56 8 = s.rxsum := by
  simp (disch := omega) only [State.infoWord, BitVec.extractLsb'_append_eq_of_add_le,
    BitVec.extractLsb'_append_eq_of_le, Nat.reduceSub, BitVec.extractLsb'_eq_self, and_self]

/-! The statements -/

/-- Settles O11, group by group of the reset values. -/
theorem resetGivesTheResetValues : Obligations.ResetGivesTheResetValues :=
  fun c => ⟨rfl, State.resetWith_registers c⟩

/-- Settles O21: the word is `State.statusWord`, whatever FAULTED is. -/
theorem cStatusGivesTheStatusWord : Obligations.CStatusGivesTheStatusWord := by
  intro s
  obtain ⟨faulted, wroteLast, recOpen, txOpen, rxValid, -, ovfLost, run, ovfie⟩ := s.statusWord_flags
  obtain ⟨faultCode, bitcnt, rxst, nowPhase, faultPort, reserved, faultOp⟩ := s.statusWord_fields
  exact ⟨s.statusWord, exec_cStatus s, faultCode, faulted, wroteLast, recOpen, txOpen, rxValid,
    s.statusWord_ovf_of_narrow, s.statusWord_ovf_of_chained, ovfLost, run, bitcnt, rxst, nowPhase,
    faultPort, ovfie, reserved, faultOp⟩

/-- Settles O22: the word is `State.infoWord`, whatever FAULTED is. -/
theorem cInfoGivesTheInfoWord : Obligations.CInfoGivesTheInfoWord :=
  fun s => ⟨s.infoWord, exec_cInfo s, s.infoWord_fields⟩

end Sys2Proof.Machine

/-! PROOF. A push of several bytes (20_memory.md R63, R65; 43_queue.md R184 to R186): the registers it
leaves, the bytes of QBUF it keeps, and the queue as a list. Where each pushed byte stands is read off the
list: byte OCC + j of the queue is the byte at (HEAD + j) mod N. -/

namespace Sys2Proof.Machine

/-! The queue as a list -/

/-- Byte `i` of the queue stands `i` indices after TAIL, modulo N (R71). -/
theorem contents_getElem? (s : State) (i : Nat) (queued : i < s.occ) :
    (contents s)[i]? = some (s.qbuf.read ((s.tail.toNat + i) % s.cfg.n)) := by
  simp [contents, queued]

/-- Where the queue has a byte at or past the old OCC, it stands that far after the old HEAD. -/
theorem State.tail_add_occ_add (s : State) (queue : s.QueueWf) (j : Nat) :
    (s.tail.toNat + (s.occ + j)) % s.cfg.n = (s.head.toNat + j) % s.cfg.n := by
  rw [← Nat.add_assoc, ← Nat.mod_add_mod, s.tail_add_occ queue]

/-! PushByte for each byte of a list -/

/-- The first byte of a list is pushed first. -/
theorem pushBytes_cons (s : State) (b : Byte) (bs : List Byte) (inside : s.head.toNat < s.cfg.n) :
    pushBytes s (b :: bs) = pushBytes (s.setByte .qbuf s.head.toNat b).pushed bs := by
  rw [pushBytes, pushByte_eq s b inside]

/-- Pushing changes HEAD, WROTE_LAST, an open record's count and QBUF, and nothing else (R181). -/
theorem pushBytes_registers (s t : State) (bs : List Byte) (hn : 0 < s.cfg.n)
    (hle : s.cfg.n ≤ 32768) (inside : s.head.toNat < s.cfg.n) (ok : pushBytes s bs = .ok t) :
    t = { s with
      head := BitVec.ofNat 15 ((s.head.toNat + bs.length) % s.cfg.n)
      wroteLast := !bs.isEmpty || s.wroteLast
      recCount := if s.recOpen then s.recCount + BitVec.ofNat 9 bs.length else s.recCount
      qbuf := t.qbuf } := by
  induction bs generalizing s with
  | nil =>
    obtain rfl := Except.ok.inj ok
    simp [Nat.mod_eq_of_lt inside]
  | cons b bs ih =>
    rw [pushBytes_cons s b bs inside] at ok
    rw [ih _ (by simpa using hn) (by simpa using hle) (by simpa using nextIndex_lt _ _ hn) ok]
    congr 1
    case e_head =>
      simp only [State.pushed_head, State.pushed_cfg, State.setByte_head, State.setByte_cfg]
      rw [nextIndex_toNat _ _ hn hle, Nat.mod_add_mod, List.length_cons, Nat.add_assoc, Nat.add_comm 1]
    case e_wroteLast => simp
    case e_recCount =>
      rw [List.length_cons, Nat.add_comm, BitVec.ofNat_add, ← BitVec.add_assoc]
      cases opened : s.recOpen <;> simp [opened]

/-- Pushing keeps every byte of QBUF but those at the successive indices from HEAD on, modulo N (R65). -/
theorem pushBytes_frame (s t : State) (bs : List Byte) (hn : 0 < s.cfg.n) (hle : s.cfg.n ≤ 32768)
    (inside : s.head.toNat < s.cfg.n) (canonical : s.qbuf.wf = true) (ok : pushBytes s bs = .ok t)
    (a : Nat) (other : ∀ j, j < bs.length → a ≠ (s.head.toNat + j) % s.cfg.n) :
    t.qbuf.read a = s.qbuf.read a := by
  induction bs generalizing s with
  | nil =>
    obtain rfl := Except.ok.inj ok
    rfl
  | cons b bs ih =>
    rw [pushBytes_cons s b bs inside] at ok
    have notHead : a ≠ s.head.toNat := by
      simpa [Nat.mod_eq_of_lt inside] using other 0 (by simp)
    rw [ih _ (by simpa using hn) (by simpa using hle) (by simpa using nextIndex_lt _ _ hn)
      (by simpa using Memory.write_wf _ _ _ canonical) ok ?_]
    · simp [Memory.read_write _ _ _ _ canonical, notHead]
    · intro j hj
      simpa [nextIndex_toNat _ _ hn hle, Nat.add_assoc, Nat.add_comm 1] using
        other (j + 1) (by simpa using hj)

/-- Where there is room for them, pushing puts the bytes at the end of the queue, in order (R181, R71). -/
theorem pushBytes_contents (s t : State) (bs : List Byte) (hn : 0 < s.cfg.n) (hle : s.cfg.n ≤ 32768)
    (queue : s.QueueWf) (room : s.occ + bs.length ≤ s.cfg.n) (ok : pushBytes s bs = .ok t) :
    contents t = contents s ++ bs := by
  induction bs generalizing s with
  | nil =>
    obtain rfl := Except.ok.inj ok
    simp
  | cons b bs ih =>
    rw [List.length_cons] at room
    rw [pushBytes_cons s b bs queue.1] at ok
    obtain ⟨queue', occ', contents'⟩ := contents_push s b hn hle queue (by omega)
    rw [ih _ (by simpa using hn) (by simpa using hle) queue' (by rw [occ']; simp; omega) ok, contents',
      List.append_assoc, List.singleton_append]

/-- Where there is room for them, the pushed bytes stand at the successive indices from HEAD on, modulo N
(R63, R65). -/
theorem pushBytes_read (s t : State) (bs : List Byte) (hn : 0 < s.cfg.n) (hle : s.cfg.n ≤ 32768)
    (queue : s.QueueWf) (room : s.occ + bs.length ≤ s.cfg.n) (ok : pushBytes s bs = .ok t)
    (j : Nat) (hj : j < bs.length) :
    t.qbuf.read ((s.head.toNat + j) % s.cfg.n) = bs[j] := by
  have list := pushBytes_contents s t bs hn hle queue room ok
  have registers := pushBytes_registers s t bs hn hle queue.1 ok
  have occ : t.occ = s.occ + bs.length := by
    simpa [contents_length] using congrArg List.length list
  have cfg : t.cfg = s.cfg := by rw [registers]
  have tail : t.tail = s.tail := by rw [registers]
  have byte : (contents t)[s.occ + j]? = some bs[j] := by
    rw [list, List.getElem?_append_right (by simp [contents_length])]
    simp [contents_length, hj]
  rw [contents_getElem? t _ (by omega), tail, cfg, s.tail_add_occ_add queue] at byte
  exact Option.some.inj byte

/-- A push whose bytes pass PushCheck, issued before any fault, completes with all of them pushed
(R182; 60_exceptions.md R264). -/
theorem issue_pushRule_fits (i : Instr) (s : State) (bs : List Byte) (hn : 0 < s.cfg.n)
    (inside : s.head.toNat < s.cfg.n) (running : s.faulted = false) (fits : PushFits s bs.length) :
    ∃ t, pushBytes s bs = .ok t ∧ issue i s (pushRule s bs) = .next (t.complete s.grant) := by
  obtain ⟨t, ok⟩ := pushBytes_completes s bs hn inside
  refine ⟨t, ok, ?_⟩
  rw [issue_running i s _ running, pushRule, (pushCheck_none_iff s bs.length).mpr fits, ok]
  rfl

/-! The wide pushes -/

theorem leBytes_length (k : Nat) (v : Data) : (leBytes k v).length = k := by simp [leBytes]

/-- Byte `j` of a wide operand is its bits 8j to 8j+7 (R63). -/
theorem leBytes_getElem (k : Nat) (v : Data) (j : Nat) (hj : j < (leBytes k v).length) :
    (leBytes k v)[j] = v.extractLsb' (8 * j) 8 := by simp [leBytes]

/-- The three wide pushes follow one rule, each with as many bytes of DIN as its width (R184 to R186). -/
theorem exec_widePush (i : Instr) (k : Nat) (s : State)
    (wide : (i = .qPush16 ∧ k = 2) ∨ (i = .qPush32 ∧ k = 4) ∨ (i = .qPush64 ∧ k = 8)) :
    exec i s = issue i s (pushRule s (leBytes k s.dinOf)) := by
  obtain ⟨rfl, rfl⟩ | ⟨rfl, rfl⟩ | ⟨rfl, rfl⟩ := wide <;> rfl

/-- Settles O40: the push of the bytes `leBytes k DIN`, whose registers, kept bytes, stored bytes and queue
are those of any list of bytes pushed. -/
theorem qWidePushesAreLittleEndian : Obligations.QWidePushesAreLittleEndian := by
  intro s i k wf running wide fits
  obtain ⟨⟨hlo, hle, -, -⟩, queue, -⟩ := wf
  have ⟨inside, _, canonical, _⟩ := queue
  have hn : 0 < s.cfg.n := by omega
  have len := leBytes_length k s.dinOf
  have nonempty : (leBytes k s.dinOf).isEmpty = false := by
    rw [List.isEmpty_eq_false_iff, ← List.length_pos_iff, len]
    omega
  have room : s.occ + (leBytes k s.dinOf).length ≤ s.cfg.n := by
    have := s.space_add_occ queue
    have := fits.2
    omega
  obtain ⟨t, ok, completes⟩ :=
    issue_pushRule_fits i s (leBytes k s.dinOf) hn inside running (by rwa [len])
  have registers := pushBytes_registers s t _ hn hle inside ok
  have kept := pushBytes_frame s t _ hn hle inside canonical ok
  have stored : ∀ j, j < k → t.qbuf.read ((s.head.toNat + j) % s.cfg.n) =
      s.dinOf.extractLsb' (8 * j) 8 := fun j hj => by
    rw [pushBytes_read s t _ hn hle queue room ok j (by rwa [len]), leBytes_getElem]
  have list := pushBytes_contents s t _ hn hle queue room ok
  rw [len] at registers kept
  rw [nonempty] at registers
  exact ⟨t, (exec_widePush i k s wide).trans completes, registers, stored, kept, list⟩

end Sys2Proof.Machine

/-! PROOF. The sum of a frame's bytes and the checksum byte (30_encoding.md R97). That byte is unique, which
gives both parts of the rule: every frame ends with it, and the formula is its value. -/

namespace Sys2Proof.Machine

theorem sumBytes_concat (bs : List Byte) (b : Byte) : sumBytes (bs ++ [b]) = sumBytes bs + b :=
  List.foldl_concat ..

/-- The sum of bytes is the sum of their values modulo 256. -/
theorem sumBytes_toNat (bs : List Byte) :
    (sumBytes bs).toNat = (bs.map BitVec.toNat).sum % 256 := by
  induction bs using List.reverseRecOn with
  | nil => rfl
  | append_singleton bs b ih => simp [sumBytes_concat, ih]

theorem checksum_toNat (s : Byte) : (checksum s).toNat = (256 - s.toNat) % 256 := by
  simp [checksum]

/-- The checksum byte, and no other, completes a sum to 0. -/
theorem add_eq_zero_iff_checksum (s b : Byte) : s + b = 0 ↔ b = checksum s := by
  have formula := checksum_toNat s
  bv_omega

theorem sumBytes_concat_eq_zero_iff (bs : List Byte) (b : Byte) :
    sumBytes (bs ++ [b]) = 0 ↔ b = checksum (sumBytes bs) := by
  rw [sumBytes_concat, add_eq_zero_iff_checksum]

theorem sumBytes_closeFrame (bs : List Byte) : sumBytes (closeFrame bs) = 0 :=
  (sumBytes_concat_eq_zero_iff bs _).mpr rfl

/-- Settles O35: each of the three layouts is a closed frame, and the formula is the value of the checksum
byte of the other bytes' sum. -/
theorem framesSumToZero : Obligations.FramesSumToZero := by
  refine ⟨fun c data => ⟨sumBytes_closeFrame _, sumBytes_closeFrame _, sumBytes_closeFrame _⟩,
    fun bs chk => ?_⟩
  rw [sumBytes_concat_eq_zero_iff, ← BitVec.toNat_inj, checksum_toNat, sumBytes_toNat]

end Sys2Proof.Machine

/-! PROOF. Unit T: the result of T.NOW (44_timestamp.md R224, R225) and the counter's TICK (R231 to R233).
The tally and the counter of TSVAR = NARROW are narrower than the 64 bits that hold them; both count up by
`incMod`. -/

namespace Sys2Proof.Machine

/-! Counting up on a register of `k` bits (00_scope.md R11) -/

theorem incMod_toNat_lt (k : Nat) (x : Data) : (incMod k x).toNat < 2 ^ k := by
  rw [incMod, BitVec.toNat_ofNat]
  exact (Nat.mod_le _ _).trans_lt (Nat.mod_lt _ (Nat.two_pow_pos k))

/-- Below its last value the register goes up by one. -/
theorem incMod_of_lt (k : Nat) (x : Data) (below : x.toNat < 2 ^ k - 1) : incMod k x = x + 1 := by
  rw [incMod, Nat.mod_eq_of_lt (by omega), BitVec.ofNat_add, BitVec.ofNat_toNat, BitVec.setWidth_eq]
  rfl

/-! The result word of T.NOW -/

/-- Bits W-1 to 0 of the result are the counter value. -/
theorem composeNow_getLsbD_low (w : Nat) (tally v : Data) (j : Nat) (low : j < w) :
    (composeNow w tally v).getLsbD j = v.getLsbD j := by
  simp [composeNow, low]

/-- Bits 63 to W of the result are the tally: a counter value of W bits has none there. -/
theorem composeNow_getLsbD_high (w : Nat) (tally v : Data) (fits : v.toNat < 2 ^ w) (j : Nat)
    (high : w ≤ j) (inside : j < 64) :
    (composeNow w tally v).getLsbD j = tally.getLsbD (j - w) := by
  have clear : v.getLsbD j = false :=
    Nat.testBit_lt_two_pow (fits.trans_le (Nat.pow_le_pow_right Nat.two_pos high))
  rw [composeNow, BitVec.getLsbD_or, BitVec.getLsbD_shiftLeft, clear]
  simp [inside, high]

/-- The fields share no bit and a tally of 64 - W bits loses none to the shift, so `|` is `+`. -/
theorem composeNow_toNat (w : Nat) (tally v : Data) (width : w ≤ 64) (fits : v.toNat < 2 ^ w)
    (tallyFits : tally.toNat < 2 ^ (64 - w)) :
    (composeNow w tally v).toNat = tally.toNat * 2 ^ w + v.toNat := by
  have kept : tally.toNat * 2 ^ w < 2 ^ 64 := calc
    tally.toNat * 2 ^ w < 2 ^ (64 - w) * 2 ^ w :=
      Nat.mul_lt_mul_of_pos_right tallyFits (Nat.two_pow_pos w)
    _ = 2 ^ 64 := by rw [← Nat.pow_add, Nat.sub_add_cancel width]
  rw [composeNow, BitVec.toNat_or, BitVec.toNat_shiftLeft, Nat.shiftLeft_eq, Nat.mod_eq_of_lt kept,
    Nat.mul_comm, Nat.two_pow_add_eq_or_of_lt fits]

/-! The step PH3 -/

theorem nowPh3_tally (s : State) :
    (nowPh3 s).tally = if nowCounts s then incMod (64 - s.cfg.w) s.tally else s.tally := by
  cases counts : nowCounts s <;> simp [nowPh3, counts, countOverflow]

/-- The tally stays within its 64 - W bits, counted up or not. -/
theorem nowPh3_tally_lt (s : State) (fits : s.tally.toNat < 2 ^ (64 - s.cfg.w)) :
    (nowPh3 s).tally.toNat < 2 ^ (64 - s.cfg.w) := by
  rw [nowPh3_tally]
  split
  · exact incMod_toNat_lt _ _
  · exact fits

/-- The result goes to the port that began the T.NOW, composed with the tally the step leaves (R225). -/
theorem nowPh3_dout (s : State) :
    (nowPh3 s).dout = s.dout.set s.nowPort (composeNow s.cfg.w (nowPh3 s).tally s.nowV) := by
  cases counts : nowCounts s <;> simp [nowPh3, counts, countOverflow]

/-- At PH2 the T.NOW of the granted port takes its last step, faulted or not: it is no new issue
(60_exceptions.md R264). -/
theorem completes_tNow_of_ph2 (s : State) (narrow : s.cfg.tsvar = .narrow) (ph2 : s.nowPhase = .ph2)
    (mine : s.nowPort = s.grant) : Completes .tNow s (nowPh3 s) := by
  have begun : nowInProgress s = true := by simp [nowInProgress, ph2, mine]
  have last : nowNarrow s = .done (nowPh3 s) := by simp [nowNarrow, ph2, mine]
  change execTNow s = _
  simp only [execTNow, narrow, begun, if_true, last, finish]

/-! The step of a TICK -/

/-- A step whose event is a TICK is that tick. -/
theorem step_of_tick (s : State) (rest : List Event) (event : s.sched = .tick :: rest) :
    step s = .next ({ s with sched := rest } : State).tick := by
  simp only [step, event, perform]

theorem State.tick_chained (s : State) (run : s.run = true) (chained : s.cfg.tsvar = .chained) :
    s.tick = { s with chraw := s.chraw - 1 } := by
  rw [State.tick, if_pos run, chained]
  rfl

theorem State.tick_narrow (s : State) (run : s.run = true) (narrow : s.cfg.tsvar = .narrow) :
    s.tick = tickNarrow s := by
  rw [State.tick, if_pos run, narrow]

/-- From its last value the counter wraps to 0, which sets OVF; one not yet serviced is lost (R231). -/
theorem tickNarrow_of_last (s : State) (last : s.cnt.toNat = 2 ^ s.cfg.w - 1) :
    tickNarrow s =
      { s with cnt := 0, ovfLost := if s.ovf then true else s.ovfLost, ovf := true } := by
  have lost : (s.ovf || s.ovfLost) = if s.ovf then true else s.ovfLost := by cases s.ovf <;> rfl
  rw [tickNarrow, if_pos last, lost]

theorem tickNarrow_of_lt (s : State) (below : s.cnt.toNat < 2 ^ s.cfg.w - 1) :
    tickNarrow s = { s with cnt := s.cnt + 1 } := by
  rw [tickNarrow, if_neg below.ne, incMod_of_lt _ _ below]

/-! The statements -/

/-- Settles O55: the state after is that of PH3, whose result word is `composeNow` of two registers that
keep to their widths. -/
theorem tNowComposesTallyAndCount : Obligations.TNowComposesTallyAndCount := by
  intro s wf narrow ph2 mine
  obtain ⟨⟨-, -, -, width⟩, -, -, ⟨-, vFits, tallyFits, -, -⟩, -⟩ := wf
  have result : (nowPh3 s).dout.get s.grant = composeNow s.cfg.w (nowPh3 s).tally s.nowV := by
    rw [nowPh3_dout, mine, PerPort.get_set_same]
  refine ⟨nowPh3 s, completes_tNow_of_ph2 s narrow ph2 mine, ?_⟩
  rw [result]
  exact ⟨rfl, composeNow_getLsbD_low _ _ _, composeNow_getLsbD_high _ _ _ vFits,
    composeNow_toNat _ _ _ (by omega) vFits (nowPh3_tally_lt s tallyFits)⟩

/-- Settles O57: one clause for each way a TICK can go. -/
theorem tickStepsTheCounter : Obligations.TickStepsTheCounter := by
  intro s rest _ event
  rw [step_of_tick s rest event]
  refine ⟨fun stopped => ?_, fun run chained => ?_, fun run narrow last => ?_,
    fun run narrow below => ?_⟩
  · rw [State.tick_stopped { s with sched := rest } stopped]
  · rw [State.tick_chained { s with sched := rest } run chained]
  · rw [State.tick_narrow { s with sched := rest } run narrow,
      tickNarrow_of_last { s with sched := rest } last]
  · rw [State.tick_narrow { s with sched := rest } run narrow,
      tickNarrow_of_lt { s with sched := rest } below]

end Sys2Proof.Machine

/-! PROOF. What the block does after a recorded fault (60_exceptions.md R261, R264, R270): a second fault is
not recorded, and no operation and no event but reset writes a fault register. -/

namespace Sys2Proof.Machine

/-- The fault registers of 10_state.md R46 stand in `t` as they do in `s`. -/
def SameFault (s t : State) : Prop :=
  t.faulted = s.faulted ∧ t.faultCode = s.faultCode ∧ t.faultOp = s.faultOp ∧ t.faultPort = s.faultPort

theorem SameFault.refl (s : State) : SameFault s s := ⟨rfl, rfl, rfl, rfl⟩

theorem SameFault.complete {s t : State} (same : SameFault s t) (p : Port) :
    SameFault s (t.complete p) := by
  simpa [SameFault] using same

theorem SameFault.wait {s t : State} (same : SameFault s t) (p : Port) : SameFault s (t.wait p) := by
  simpa [SameFault] using same

theorem SameFault.setDout (s : State) (v : Data) : SameFault s (s.setDout v) := by
  simp [SameFault]

/-- A second fault is not recorded (R261). -/
theorem SameFault.recordFault (s : State) (c : FaultCode) (op : OpWord) (faulted : s.faulted = true) :
    SameFault s (s.recordFault c op) := by
  rw [State.recordFault_later s c op faulted]
  exact .refl s

/-! Operations -/

/-- After a fault an operation's step keeps the fault registers if every state its rule answers does. -/
theorem finish_sameFault (i : Instr) (s t : State) (r : OpResult) (faulted : s.faulted = true)
    (rule : ∀ u, r = .done u ∨ r = .more u → SameFault s u) (next : finish i s r = .next t) :
    SameFault s t := by
  obtain ⟨u, done, rfl⟩ | ⟨u, more, rfl⟩ | ⟨-, rfl⟩ | ⟨c, -, rfl⟩ := finish_next i s t r next
  · exact (rule u (.inl done)).complete _
  · exact (rule u (.inr more)).wait _
  · exact (SameFault.refl s).wait _
  · exact (SameFault.recordFault s c _ faulted).complete _

/-- A rule that only completes answers one state. -/
theorem finish_done_sameFault (i : Instr) (s t u : State) (same : SameFault s u)
    (next : finish i s (.done u) = .next t) : SameFault s t := by
  obtain rfl := Host.Outcome.next.inj next
  exact same.complete _

/-- An operation issued after a fault is consumed (R264). -/
theorem issue_sameFault (i : Instr) (s t : State) (r : OpResult) (faulted : s.faulted = true)
    (next : issue i s r = .next t) : SameFault s t := by
  rw [issue_faulted i s r faulted] at next
  obtain rfl := Host.Outcome.next.inj next
  exact (SameFault.refl s).complete _

theorem nowPh3_sameFault (s : State) : SameFault s (nowPh3 s) := by
  cases counts : nowCounts s <;> simp [SameFault, nowPh3, counts, countOverflow]

/-- A step of T.NOW answers only with what PH1, PH2 or PH3 leaves (44_timestamp.md R224). -/
theorem nowNarrow_answers (s u : State) (answer : nowNarrow s = .done u ∨ nowNarrow s = .more u) :
    u = nowPh1 s ∨ u = nowPh2 s ∨ u = nowPh3 s := by
  unfold nowNarrow at answer
  split at answer
  case h_1 => simp_all
  case h_2 => split at answer <;> simp_all
  case h_3 => split at answer <;> simp_all

theorem nowNarrow_sameFault (s u : State) (answer : nowNarrow s = .done u ∨ nowNarrow s = .more u) :
    SameFault s u := by
  obtain rfl | rfl | rfl := nowNarrow_answers s u answer
  · exact .refl s
  · exact .refl s
  · exact nowPh3_sameFault s

/-- T.NOW is the one operation outside unit CTL that may still act, in a step after its first (R264). -/
theorem execTNow_sameFault (s t : State) (faulted : s.faulted = true) (next : execTNow s = .next t) :
    SameFault s t := by
  unfold execTNow at next
  split at next
  case h_1 => exact issue_sameFault _ s t _ faulted next
  case h_2 =>
    split at next
    · exact finish_sameFault _ s t _ faulted (nowNarrow_sameFault s) next
    · exact issue_sameFault _ s t _ faulted next

/-- After a fault unit CTL only reads, T.NOW may end, and every other operation is consumed (R264). -/
theorem exec_sameFault (i : Instr) (s t : State) (faulted : s.faulted = true)
    (next : exec i s = .next t) : SameFault s t := by
  cases i with
  | cNop => exact finish_done_sameFault .cNop s t s (.refl s) next
  | cStatus => exact finish_done_sameFault .cStatus s t _ (.setDout s _) next
  | cInfo => exact finish_done_sameFault .cInfo s t _ (.setDout s _) next
  | tNow => exact execTNow_sameFault s t faulted next
  | _ => exact issue_sameFault _ s t _ faulted next

/-! Events -/

theorem turn_sameFault (s t : State) (faulted : s.faulted = true) (next : turn s = .next t) :
    SameFault s t := by
  unfold turn at next
  split at next
  case h_1 =>
    obtain rfl := Host.Outcome.next.inj next
    exact .refl s
  case h_2 w _ =>
    split at next
    case h_1 i _ => exact exec_sameFault i s t faulted next
    case h_2 =>
      obtain rfl := Host.Outcome.next.inj next
      exact (SameFault.recordFault s .illegalOp w faulted).complete _

theorem tickNarrow_sameFault (s : State) : SameFault s (tickNarrow s) := by
  unfold tickNarrow
  split <;> exact .refl s

theorem State.tick_sameFault (s : State) : SameFault s s.tick := by
  cases run : s.run with
  | false =>
    rw [s.tick_stopped run]
    exact .refl s
  | true =>
    cases tsvar : s.cfg.tsvar with
    | narrow =>
      rw [s.tick_narrow run tsvar]
      exact tickNarrow_sameFault s
    | chained =>
      rw [s.tick_chained run tsvar]
      exact .refl s

theorem perform_sameFault (e : Event) (s t : State) (faulted : s.faulted = true)
    (noReset : e ≠ .reset) (next : perform e s = .next t) : SameFault s t := by
  cases e with
  | turn p => exact turn_sameFault { s with grant := p } t faulted next
  | tick =>
    obtain rfl := Host.Outcome.next.inj next
    exact s.tick_sameFault
  | setDin p v =>
    obtain rfl := Host.Outcome.next.inj next
    exact .refl s
  | reset => exact absurd rfl noReset

theorem step_sameFault (s t : State) (faulted : s.faulted = true)
    (noReset : s.sched.head? ≠ some .reset) (next : step s = .next t) : SameFault s t := by
  unfold step at next
  split at next
  case h_1 =>
    obtain rfl := Host.Outcome.next.inj next
    exact .refl s
  case h_2 e rest event =>
    exact perform_sameFault e { s with sched := rest } t faulted (by simpa [event] using noReset) next

/-! The statement -/

/-- Settles O18: a step that is no reset keeps the fault registers, FAULTED among them. -/
theorem faultRegistersLastUntilReset : Obligations.FaultRegistersLastUntilReset := by
  intro s t faulted noReset next
  obtain ⟨kept, code, op, port⟩ := step_sameFault s t faulted noReset next
  exact ⟨kept.trans faulted, code, op, port⟩

end Sys2Proof.Machine

/-! PROOF. The operation word (30_encoding.md section 1): the decoder undoes the encoder, the encoder undoes the
decoder, and the rows of the operation map under their masks are the legal words. -/

namespace Sys2Proof

/-! What a format leaves free (R82): the fields it admits are those its fixed bits leave -/

/-- A well-formed operation's fields are admitted by the format of its row: only Q.PUSHBIT can be ill-formed. -/
theorem encode_admitted (i : Instr) (wf : i.wellFormed = true) :
    ∃ r, findRow (unitOf (encode i)) (fnOf (encode i)) = some r ∧
      r.format.admits (fieldA (encode i)) (fieldB (encode i)) (fieldZ (encode i)) = true := by
  cases i with
  | qPushBit a => simpa [encode, findRow, opMap, Format.admits, Instr.wellFormed] using wf
  | _ => simp [encode, findRow, opMap, Format.admits]

/-- The row at an operation's UNIT and FN makes that operation again from its A and B: what
`Laws.EncodingFields` says for each constructor. -/
theorem encode_row (i : Instr) : Laws.EncodingFields.Statement i :=
  match i with
  | .cNop => Laws.EncodingFields.cNop
  | .cStatus => Laws.EncodingFields.cStatus
  | .cInfo => Laws.EncodingFields.cInfo
  | .rxByte a => Laws.EncodingFields.rxByte a
  | .rxStat => Laws.EncodingFields.rxStat
  | .rxCmd => Laws.EncodingFields.rxCmd
  | .rxLen => Laws.EncodingFields.rxLen
  | .rxData a => Laws.EncodingFields.rxData a
  | .rxAck => Laws.EncodingFields.rxAck
  | .txCmd a b => Laws.EncodingFields.txCmd a b
  | .txData a => Laws.EncodingFields.txData a
  | .txErr a b => Laws.EncodingFields.txErr a b
  | .txByte a => Laws.EncodingFields.txByte a
  | .txEnd => Laws.EncodingFields.txEnd
  | .txDrain => Laws.EncodingFields.txDrain
  | .txFlush => Laws.EncodingFields.txFlush
  | .qPush a => Laws.EncodingFields.qPush a
  | .qPush16 => Laws.EncodingFields.qPush16
  | .qPush32 => Laws.EncodingFields.qPush32
  | .qPush64 => Laws.EncodingFields.qPush64
  | .qPop => Laws.EncodingFields.qPop
  | .qSpace => Laws.EncodingFields.qSpace
  | .qAvail => Laws.EncodingFields.qAvail
  | .qClear => Laws.EncodingFields.qClear
  | .qPushBit a => Laws.EncodingFields.qPushBit a
  | .qFlushBits => Laws.EncodingFields.qFlushBits
  | .qRBegin => Laws.EncodingFields.qRBegin
  | .qREnd => Laws.EncodingFields.qREnd
  | .qSetDLen a => Laws.EncodingFields.qSetDLen a
  | .tStart => Laws.EncodingFields.tStart
  | .tNow => Laws.EncodingFields.tNow
  | .tOvfSvc => Laws.EncodingFields.tOvfSvc

theorem decode_encode (i : Instr) (wf : i.wellFormed = true) : decode (encode i) = .ok i := by
  obtain ⟨r, found, admitted⟩ := encode_admitted i wf
  obtain ⟨-, r', found', make⟩ := encode_row i
  obtain rfl : r = r' := Option.some.inj (found.symm.trans found')
  exact (decode_ok_iff _ _).mpr ⟨r, found, admitted, make⟩

/-- Each row's operation, made from fields the row's format admits, has the word of those fields and fits
its own format. -/
theorem row_encode_make (r : OpRow) (row : r ∈ opMap) (a b z : Byte)
    (admitted : r.format.admits a b z = true) :
    encode (r.make a b) = packWord r.unit r.fn a b z ∧ (r.make a b).wellFormed = true := by
  simp only [opMap, List.mem_cons, List.not_mem_nil, or_false] at row
  rcases row with rfl | rfl | rfl | rfl | rfl | rfl | rfl | rfl | rfl | rfl | rfl | rfl | rfl | rfl | rfl |
    rfl | rfl | rfl | rfl | rfl | rfl | rfl | rfl | rfl | rfl | rfl | rfl | rfl | rfl | rfl | rfl | rfl <;>
  simp_all [Format.admits, encode, Instr.wellFormed]

theorem encode_of_decode (w : OpWord) (i : Instr) (ok : decode w = .ok i) :
    encode i = w ∧ i.wellFormed = true := by
  obtain ⟨r, found, admitted, rfl⟩ := (decode_ok_iff w i).mp ok
  obtain ⟨row, hunit, hfn⟩ := findRow_some _ _ _ found
  obtain ⟨word, wf⟩ := row_encode_make r row _ _ _ admitted
  rw [word, hunit, hfn, packWord_fields]
  exact ⟨rfl, wf⟩

/-- The word of an operation decodes to nothing else. -/
theorem decode_word_eq (w : OpWord) (i : Instr) (ok : decode w = .ok i) (j : Instr)
    (wf : j.wellFormed = true) (word : w = encode j) : i = j := by
  rw [word, decode_encode j wf] at ok
  exact (Except.ok.inj ok).symm

/-- Settles O1: the row found for the word admits its fields and makes the operation. -/
theorem decodeInvertsEncode : Obligations.DecodeInvertsEncode := decode_encode

/-- Settles O2: the word is that of its fields, which the row's operation has too. -/
theorem encodeInvertsDecode : Obligations.EncodeInvertsDecode := encode_of_decode

/-! The table of match and mask (R82, R85, R86) -/

/-- Two words with the same five fields are the same word (R80). -/
theorem word_eq_iff (w w' : OpWord) : w = w' ↔ unitOf w = unitOf w' ∧ fnOf w = fnOf w' ∧
    fieldA w = fieldA w' ∧ fieldB w = fieldB w' ∧ fieldZ w = fieldZ w' := by
  refine ⟨by rintro rfl; simp, fun ⟨hu, hf, ha, hb, hz⟩ => ?_⟩
  rw [← packWord_fields w, ← packWord_fields w', hu, hf, ha, hb, hz]

/-- Bits 7 to 1 of the A field are 0 exactly when the mask of format BIT leaves nothing of it (R82). -/
theorem and_bitMask_eq_zero_iff (a : Byte) : a &&& 0xFE = 0 ↔ a.extractLsb' 1 7 = 0 := by
  revert a
  decide

theorem and_fullMask (a : Byte) : a &&& 0xFF = a := BitVec.and_allOnes

theorem and_emptyMask (a : Byte) : a &&& 0 = 0 := BitVec.and_zero

/-- A format admits the operand fields of which its mask leaves nothing (R82). -/
theorem Format.admits_iff_mask (f : Format) (a b z : Byte) : f.admits a b z = true ↔
    a &&& fieldA f.mask = 0 ∧ b &&& fieldB f.mask = 0 ∧ z &&& fieldZ f.mask = 0 := by
  cases f with
  | n | d =>
    change _ ↔ a &&& 0xFF = 0 ∧ b &&& 0xFF = 0 ∧ z &&& 0xFF = 0
    simp only [and_fullMask, Format.admits, Bool.and_eq_true, beq_iff_eq, and_assoc]
  | a =>
    change _ ↔ a &&& 0 = 0 ∧ b &&& 0xFF = 0 ∧ z &&& 0xFF = 0
    simp only [and_fullMask, Format.admits, Bool.and_eq_true, beq_iff_eq, and_emptyMask, true_and]
  | ab =>
    change _ ↔ a &&& 0 = 0 ∧ b &&& 0 = 0 ∧ z &&& 0xFF = 0
    simp only [and_fullMask, Format.admits, beq_iff_eq, and_emptyMask, true_and]
  | bit =>
    change _ ↔ a &&& 0xFE = 0 ∧ b &&& 0xFF = 0 ∧ z &&& 0xFF = 0
    simp only [and_bitMask_eq_zero_iff, and_fullMask, Format.admits, Bool.and_eq_true, beq_iff_eq,
      and_assoc]

theorem Format.mask_unit (f : Format) : unitOf f.mask = BitVec.allOnes 4 := by cases f <;> rfl

theorem Format.mask_fn (f : Format) : fnOf f.mask = BitVec.allOnes 4 := by cases f <;> rfl

theorem unitOf_and (w m : OpWord) : unitOf (w &&& m) = unitOf w &&& unitOf m := BitVec.extractLsb'_and
theorem fnOf_and (w m : OpWord) : fnOf (w &&& m) = fnOf w &&& fnOf m := BitVec.extractLsb'_and
theorem fieldA_and (w m : OpWord) : fieldA (w &&& m) = fieldA w &&& fieldA m := BitVec.extractLsb'_and
theorem fieldB_and (w m : OpWord) : fieldB (w &&& m) = fieldB w &&& fieldB m := BitVec.extractLsb'_and
theorem fieldZ_and (w m : OpWord) : fieldZ (w &&& m) = fieldZ w &&& fieldZ m := BitVec.extractLsb'_and

/-- A word matches a row under its mask when it has the row's UNIT and FN and operand fields that the
row's format admits (R82, R85). -/
theorem masked_eq_iff (w : OpWord) (r : OpRow) :
    w &&& r.format.mask = packWord r.unit r.fn 0 0 0 ↔
      r.unit = unitOf w ∧ r.fn = fnOf w ∧
        r.format.admits (fieldA w) (fieldB w) (fieldZ w) = true := by
  rw [word_eq_iff, Format.admits_iff_mask, unitOf_and, fnOf_and, fieldA_and, fieldB_and, fieldZ_and,
    Format.mask_unit, Format.mask_fn, BitVec.and_allOnes, BitVec.and_allOnes, unitOf_packWord,
    fnOf_packWord, fieldA_packWord, fieldB_packWord, fieldZ_packWord, eq_comm (a := unitOf w),
    eq_comm (a := fnOf w)]

/-- The rows of the table are those of the operation map, in its order (R86). -/
theorem tableRows_eq :
    Machine.tableRows = opMap.map fun r => (packWord r.unit r.fn 0 0 0, r.format.mask) := by
  simp only [opMap, List.map]
  decide

/-- The UNIT and FN of a row of the map find that row, as no other has both. -/
theorem findRow_of_mem (r : OpRow) (row : r ∈ opMap) : findRow r.unit r.fn = some r := by
  obtain ⟨r', found⟩ : ∃ r', findRow r.unit r.fn = some r' :=
    Option.isSome_iff_exists.mp (List.find?_isSome.mpr ⟨r, row, by simp⟩)
  obtain ⟨row', hunit, hfn⟩ := findRow_some _ _ _ found
  rw [found]
  by_contra other
  have : Std.Symm fun r r' : OpRow => ¬(r.unit = r'.unit ∧ r.fn = r'.fn) :=
    ⟨fun _ _ differ same => differ ⟨same.1.symm, same.2.symm⟩⟩
  exact opMap_pairwise.forall row' row (fun same => other (congrArg some same)) ⟨hunit, hfn⟩

theorem legal_iff (w : OpWord) : legal w = true ↔ ∃ i, decode w = .ok i := by
  unfold legal
  cases decode w <;> simp

/-- Settles O3: a row matches a word under its mask exactly when the decoder finds that row for it and the
row's format admits its fields. -/
theorem legalWordsAreTheTable : Obligations.LegalWordsAreTheTable := by
  intro w
  rw [legal_iff, tableRows_eq]
  simp only [List.mem_map, exists_exists_and_eq_and, masked_eq_iff]
  constructor
  · rintro ⟨i, ok⟩
    obtain ⟨r, found, admitted, -⟩ := (decode_ok_iff w i).mp ok
    obtain ⟨row, hunit, hfn⟩ := findRow_some _ _ _ found
    exact ⟨r, row, hunit, hfn, admitted⟩
  · rintro ⟨r, row, hunit, hfn, admitted⟩
    exact ⟨_, (decode_ok_iff w _).mpr ⟨r, hunit ▸ hfn ▸ findRow_of_mem r row, admitted, rfl⟩⟩

/-- Settles O4: the decoder run on each word. -/
theorem vectorWordsDecode : Obligations.VectorWordsDecode :=
  ⟨rfl, rfl, rfl, rfl, rfl, rfl, rfl, rfl, rfl, rfl⟩

end Sys2Proof

/-! PROOF. What an operation step can do, said once (60_exceptions.md R261, R264; 00_scope.md R9). `ruleOf` is
the rule of each operation apart from the issue procedure around it, `Effect` the ways a rule can complete,
and `ExecNext` the ways an operation step can end. The statements about every operation go through these. -/

namespace Sys2Proof.Machine

/-! The rule of an operation and the issue procedure around it -/

/-- What the rule of an operation answers, before the issue procedure. -/
def ruleOf (i : Instr) (s : State) : OpResult :=
  match i with
  | .cNop => .done s
  | .cStatus => .done (s.setDout s.statusWord)
  | .cInfo => .done (s.setDout s.infoWord)
  | .rxByte b => if s.rxValid then .hold else rxStep s b
  | .rxStat => .done (s.setDout s.rxStatWord)
  | .rxCmd => check (rxHeldCheck s) (.done (s.setDout (zextByte s.rxcmdr)))
  | .rxLen => check (rxHeldCheck s) (.done (s.setDout (zextByte s.rxlenr)))
  | .rxData ix => check (rxHeldCheck s) (check (rxRangeCheck s ix) (rxDataRead s ix))
  | .rxAck => check (rxHeldCheck s) (.done { s with rxValid := false })
  | .txCmd c n => check (txClosedCheck s) (.done (txOpenFrame s [startMark, c, n] n))
  | .txData n => check (txClosedCheck s) (.done (txOpenFrame s [dataMark, n] n))
  | .txErr code k => check (txClosedCheck s) (check (txErrRangeCheck k)
      (.done (txOpenFrame s [startMark, errorMark, k + 1, code] k)))
  | .txByte b => check (txOwnerCheck s) (check (if s.txrem = 0 then some .txLength else none)
      (.done { s.emit [b] with txsum := s.txsum + b, txrem := s.txrem - 1 }))
  | .txEnd => check (txOwnerCheck s) (check (if s.txrem = 0 then none else some .txLength)
      (.done { s.emit [checksum s.txsum] with txOpen := false, txsum := 0 }))
  | .txDrain => check (txDrainCheck s) (txDrainRule s)
  | .txFlush => .done s.emitFlush
  | .qPush b => pushRule s [b]
  | .qPush16 => pushRule s (leBytes 2 s.dinOf)
  | .qPush32 => pushRule s (leBytes 4 s.dinOf)
  | .qPush64 => pushRule s (leBytes 8 s.dinOf)
  | .qPop => check (if s.occ = 0 then some .qUnderflow else none) (popRule s)
  | .qSpace => .done (s.setDout (BitVec.ofNat 64 s.space))
  | .qAvail => .done (s.setDout (zextBit (decide (0 < s.occ))))
  | .qClear => check (recClosedCheck s)
      (.done { s with head := 0, tail := 0, wroteLast := false, bitacc := 0, bitcnt := 0 })
  | .qPushBit a => check (recForeignCheck s) (pushBitRule s (bitOperand a))
  | .qFlushBits => check (recForeignCheck s)
      (if s.bitcnt = 0 then .done s else check (pushCheck s 1) (pushAcc s))
  | .qRBegin => check (rbeginCheck s)
      (if s.space < s.datalen.toNat then .done (s.setDout (zextBit false))
       else .done ({ s with recOpen := true, recPort := s.grant, recCount := 0 }.setDout (zextBit true)))
  | .qREnd => check (rendCheck s) (closeRecord (if s.bitcnt = 0 then .done s else pushAcc s))
  | .qSetDLen n => check (recClosedCheck s) (.done { s with datalen := n })
  | .tStart => unlessInWindow s (.done { s with
      tally := 0
      cnt := 0
      ovf := false
      ovfLost := false
      chraw := 0xFFFFFFFFFFFFFFFF#64
      run := true
      ovfie := true })
  | .tNow =>
    match s.cfg.tsvar with
    | .chained => .done (s.setDout (~~~ s.chraw))
    | .narrow => nowNarrow s
  | .tOvfSvc => unlessInWindow s
      (.done (if s.cfg.tsvar = .narrow ∧ s.ovf then countOverflow s else s))

/-- What still acts after a fault: unit CTL, and a T.NOW of the granted port between its steps (R264). -/
def actsAfterFault (i : Instr) (s : State) : Prop :=
  isControl i = true ∨ (i = .tNow ∧ s.cfg.tsvar = .narrow ∧ s.nowPhase ≠ .idle ∧ s.nowPort = s.grant)

theorem nowInProgress_iff (s : State) :
    nowInProgress s = true ↔ s.nowPhase ≠ .idle ∧ s.nowPort = s.grant := by
  simp [nowInProgress]

/-- Before a fault every operation runs its rule, and what still acts after one does so then too. -/
theorem exec_eq_finish (i : Instr) (s : State) (active : s.faulted = false ∨ actsAfterFault i s) :
    exec i s = finish i s (ruleOf i s) := by
  cases i with
  | cNop | cStatus | cInfo => rfl
  | tNow =>
    change execTNow s = finish .tNow s (match s.cfg.tsvar with
      | .chained => .done (s.setDout (~~~ s.chraw))
      | .narrow => nowNarrow s)
    unfold execTNow
    obtain running | begun := active
    · cases s.cfg.tsvar <;> simp [issue_running _ s _ running]
    · obtain ⟨narrow, begun⟩ : s.cfg.tsvar = .narrow ∧ nowInProgress s = true := by
        simpa [actsAfterFault, isControl, nowInProgress_iff] using begun
      simp [narrow, begun]
  | _ => exact issue_running _ s _ (by simpa [actsAfterFault, isControl] using active)

/-- After a fault everything else is consumed with no effect (R264). -/
theorem exec_consumed (i : Instr) (s : State) (faulted : s.faulted = true)
    (inert : ¬actsAfterFault i s) : exec i s = .next (s.complete s.grant) := by
  cases i with
  | cNop | cStatus | cInfo => exact absurd (.inl rfl) inert
  | tNow =>
    change execTNow s = _
    unfold execTNow
    split
    · exact issue_faulted _ s _ faulted
    next narrow =>
      rw [if_neg fun begun => inert (.inr ⟨rfl, narrow, (nowInProgress_iff s).mp begun⟩),
        issue_faulted _ s _ faulted]
  | _ => exact issue_faulted _ s _ faulted

section Running

variable {i : Instr} {s t : State} (running : s.faulted = false)
include running

/-- Before a fault an operation completes as its rule does. -/
theorem completes_of_rule (rule : ruleOf i s = .done t) : Completes i s t := by
  rw [Completes, exec_eq_finish i s (.inl running), rule]
  rfl

theorem holds_of_rule (rule : ruleOf i s = .hold) : Holds i s := by
  rw [Holds, exec_eq_finish i s (.inl running), rule]
  rfl

theorem waits_of_rule (rule : ruleOf i s = .more t) : exec i s = .next (t.wait s.grant) := by
  rw [exec_eq_finish i s (.inl running), rule]
  rfl

/-- Before a fault an operation whose rule raises records that fault (R261). -/
theorem faults_of_rule {c : FaultCode} (rule : ruleOf i s = .raise c) : Faults i s c := by
  rw [Faults, exec_eq_finish i s (.inl running), rule, ← State.recordFault_first s c _ running]
  rfl

end Running

/-! How a rule completes -/

/-- `Effect i s u`: the rule of `i` completes from `s` with `u`, by the checks it has passed. -/
inductive Effect : Instr → State → State → Prop where
  | unchanged (i : Instr) (s : State) : Effect i s s
  | result (i : Instr) (s : State) (v : Data) (writes : writesDout i = true) : Effect i s (s.setDout v)
  | takeByte (b : Byte) (s u : State) (free : s.rxValid = false) (taken : rxStep s b = .done u) :
      Effect (.rxByte b) s u
  | releaseFrame (s : State) : Effect .rxAck s { s with rxValid := false }
  | openFrame (i : Instr) (s : State) (header : List Byte) (rem : Byte) (closed : s.txOpen = false) :
      Effect i s (txOpenFrame s header rem)
  | frameByte (b : Byte) (s : State) (opened : s.txOpen = true) (own : s.txPort = s.grant) :
      Effect (.txByte b) s { s.emit [b] with txsum := s.txsum + b, txrem := s.txrem - 1 }
  | closeFrame (s : State) (opened : s.txOpen = true) (own : s.txPort = s.grant) (paid : s.txrem = 0) :
      Effect .txEnd s { s.emit [checksum s.txsum] with txOpen := false, txsum := 0 }
  | drain (s u : State) (bs : List Byte) (closed : s.txOpen = false)
      (enough : s.datalen.toNat ≤ s.occ) (popped : popBytes s s.datalen.toNat = .ok (bs, u)) :
      Effect .txDrain s ((u.emit (dataMark :: s.datalen :: bs
        ++ [checksum (dataMark + s.datalen + sumBytes bs)])).setDout (zextBit true))
  | flushMark (s : State) : Effect .txFlush s s.emitFlush
  | push (i : Instr) (s u : State) (bs : List Byte) (fits : PushFits s bs.length)
      (pushed : pushBytes s bs = .ok u) : Effect i s u
  | pop (s u : State) (b : Byte) (queued : 0 < s.occ) (popped : popByte s = .ok (b, u)) :
      Effect .qPop s (u.setDout (zextByte b))
  | clear (s : State) (closed : s.recOpen = false) :
      Effect .qClear s { s with head := 0, tail := 0, wroteLast := false, bitacc := 0, bitcnt := 0 }
  | packBit (i : Instr) (s : State) (acc : Byte) (own : s.recOpen = true → s.grant = s.recPort) :
      Effect i s { s with bitacc := acc, bitcnt := s.bitcnt + 1 }
  | packByte (i : Instr) (s u : State) (acc : Byte) (fits : PushFits s 1)
      (pushed : pushByte { s with bitacc := acc } acc = .ok u) : Effect i s { u with bitcnt := 0 }
  | openRecord (s : State) (v : Data) (set : s.datalen ≠ 0) (closed : s.recOpen = false)
      (room : s.datalen.toNat ≤ s.space) :
      Effect .qRBegin s ({ s with recOpen := true, recPort := s.grant, recCount := 0 }.setDout v)
  | closeRecord (s : State) (opened : s.recOpen = true) (own : s.grant = s.recPort) :
      Effect .qREnd s { s with recOpen := false, recCount := 0 }
  | closeRecordByte (s u : State) (opened : s.recOpen = true) (own : s.grant = s.recPort)
      (exact : s.recCount.toNat + 1 = s.datalen.toNat) (pushed : pushByte s s.bitacc = .ok u) :
      Effect .qREnd s { u with bitcnt := 0, recOpen := false, recCount := 0 }
  | setLength (n : Byte) (s : State) (closed : s.recOpen = false) :
      Effect (.qSetDLen n) s { s with datalen := n }
  | start (s : State) (outside : s.nowPhase = .idle) : Effect .tStart s { s with
      tally := 0
      cnt := 0
      ovf := false
      ovfLost := false
      chraw := 0xFFFFFFFFFFFFFFFF#64
      run := true
      ovfie := true }
  | deliver (s : State) (ph2 : s.nowPhase = .ph2) (own : s.nowPort = s.grant) :
      Effect .tNow s (nowPh3 s)
  | service (s : State) (outside : s.nowPhase = .idle) (pending : s.ovf = true) :
      Effect .tOvfSvc s (countOverflow s)

theorem rxHeldCheck_none_iff (s : State) : rxHeldCheck s = none ↔ s.rxValid = true := by
  simp [rxHeldCheck]

theorem rxRangeCheck_none_iff (s : State) (i : Byte) :
    rxRangeCheck s i = none ↔ i.toNat < s.rxlenr.toNat := by
  simp [rxRangeCheck]

theorem txClosedCheck_none_iff (s : State) : txClosedCheck s = none ↔ s.txOpen = false := by
  simp [txClosedCheck]

theorem txOwnerCheck_none_iff (s : State) :
    txOwnerCheck s = none ↔ s.txOpen = true ∧ s.txPort = s.grant := by
  simp [txOwnerCheck]

theorem txDrainCheck_none_iff (s : State) :
    txDrainCheck s = none ↔ s.datalen ≠ 0 ∧ s.txOpen = false := by
  unfold txDrainCheck
  split <;> simp_all [txClosedCheck_none_iff]

theorem recClosedCheck_none_iff (s : State) : recClosedCheck s = none ↔ s.recOpen = false := by
  simp [recClosedCheck]

theorem recForeignCheck_none_iff (s : State) :
    recForeignCheck s = none ↔ (s.recOpen = true → s.grant = s.recPort) := by
  simp [recForeignCheck]

theorem rbeginCheck_none_iff (s : State) :
    rbeginCheck s = none ↔ s.datalen ≠ 0 ∧ s.recOpen = false ∧ s.bitcnt = 0 := by
  unfold rbeginCheck
  split_ifs <;> simp_all

theorem rendCheck_none_iff (s : State) :
    rendCheck s = none ↔ s.recOpen = true ∧ s.grant = s.recPort ∧
      s.recCount.toNat + flushCount s = s.datalen.toNat := by
  unfold rendCheck
  split_ifs with foreign
  · simp only [false_iff]
    rintro ⟨opened, own, -⟩
    simp [opened, own] at foreign
  · simp_all
  · simp_all

theorem pushRule_effect (i : Instr) (s u : State) (bs : List Byte) (done : pushRule s bs = .done u) :
    Effect i s u := by
  obtain ⟨passed, done⟩ := check_done _ _ _ done
  refine .push i s u bs ((pushCheck_none_iff s _).mp passed) ?_
  cases ok : pushBytes s bs with
  | ok t => simpa [doneOr, ok] using done
  | error f => simp [doneOr, ok] at done

theorem pushAcc_done (s u : State) (done : pushAcc s = .done u) :
    ∃ t, pushByte s s.bitacc = .ok t ∧ u = { t with bitcnt := 0 } := by
  unfold pushAcc at done
  split at done
  next t ok => exact ⟨t, ok, (OpResult.done.inj done).symm⟩
  next => cases done

theorem pushBitRule_effect (i : Instr) (s u : State) (d : Bool)
    (own : s.recOpen = true → s.grant = s.recPort) (done : pushBitRule s d = .done u) :
    Effect i s u := by
  unfold pushBitRule at done
  split at done
  · obtain ⟨passed, done⟩ := check_done _ _ _ done
    obtain ⟨t, ok, rfl⟩ := pushAcc_done _ u done
    exact .packByte i s t _ ((pushCheck_none_iff s _).mp passed) ok
  · obtain rfl := OpResult.done.inj done
    exact .packBit i s _ own

theorem txDrainRule_effect (s u : State) (closed : s.txOpen = false) (done : txDrainRule s = .done u) :
    Effect .txDrain s u := by
  unfold txDrainRule at done
  split at done
  · obtain rfl := OpResult.done.inj done
    exact .result _ s _ rfl
  · split at done
    next bs t ok =>
      obtain rfl := OpResult.done.inj done
      exact .drain s t bs closed (by omega) ok
    next => cases done

theorem popRule_effect (s u : State) (queued : 0 < s.occ) (done : popRule s = .done u) :
    Effect .qPop s u := by
  unfold popRule at done
  split at done
  next b t ok =>
    obtain rfl := OpResult.done.inj done
    exact .pop s t b queued ok
  next => cases done

theorem rxDataRead_effect (i : Byte) (s u : State) (done : rxDataRead s i = .done u) :
    Effect (.rxData i) s u := by
  unfold rxDataRead at done
  split at done
  · obtain rfl := OpResult.done.inj done
    exact .result _ s _ rfl
  · cases done

theorem unlessInWindow_done (s u : State) (r : OpResult) (done : unlessInWindow s r = .done u) :
    s.nowPhase = .idle ∧ r = .done u := by
  unfold unlessInWindow at done
  split at done
  next outside => exact ⟨outside, done⟩
  next => cases done

theorem nowNarrow_done (s u : State) (done : nowNarrow s = .done u) :
    s.nowPhase = .ph2 ∧ s.nowPort = s.grant ∧ u = nowPh3 s := by
  unfold nowNarrow at done
  split at done
  next => cases done
  next => split at done <;> cases done
  next ph2 =>
    split at done
    next own => exact ⟨ph2, own, (OpResult.done.inj done).symm⟩
    next => cases done

/-- Every way a rule completes is one of `Effect`. -/
theorem ruleOf_effect (i : Instr) (s u : State) (done : ruleOf i s = .done u) : Effect i s u := by
  cases i with
  | cNop =>
    obtain rfl := OpResult.done.inj done
    exact .unchanged _ s
  | cStatus | cInfo | rxStat | qSpace | qAvail =>
    obtain rfl := OpResult.done.inj done
    exact .result _ s _ rfl
  | rxByte b =>
    rw [ruleOf] at done
    split at done
    next => cases done
    next free => exact .takeByte b s u (eq_false_of_ne_true free) done
  | rxCmd | rxLen =>
    obtain ⟨-, done⟩ := check_done _ _ _ done
    obtain rfl := OpResult.done.inj done
    exact .result _ s _ rfl
  | rxData ix =>
    obtain ⟨-, done⟩ := check_done _ _ _ done
    exact rxDataRead_effect ix s u (check_done _ _ _ done).2
  | rxAck =>
    obtain rfl := OpResult.done.inj (check_done _ _ _ done).2
    exact .releaseFrame s
  | txCmd | txData =>
    obtain ⟨closed, done⟩ := check_done _ _ _ done
    obtain rfl := OpResult.done.inj done
    exact .openFrame _ s _ _ ((txClosedCheck_none_iff s).mp closed)
  | txErr =>
    obtain ⟨closed, done⟩ := check_done _ _ _ done
    obtain rfl := OpResult.done.inj (check_done _ _ _ done).2
    exact .openFrame _ s _ _ ((txClosedCheck_none_iff s).mp closed)
  | txByte b =>
    obtain ⟨owner, done⟩ := check_done _ _ _ done
    obtain ⟨opened, own⟩ := (txOwnerCheck_none_iff s).mp owner
    obtain rfl := OpResult.done.inj (check_done _ _ _ done).2
    exact .frameByte b s opened own
  | txEnd =>
    obtain ⟨owner, done⟩ := check_done _ _ _ done
    obtain ⟨opened, own⟩ := (txOwnerCheck_none_iff s).mp owner
    obtain ⟨paid, done⟩ := check_done _ _ _ done
    obtain rfl := OpResult.done.inj done
    exact .closeFrame s opened own (by simpa using paid)
  | txDrain =>
    obtain ⟨passed, done⟩ := check_done _ _ _ done
    exact txDrainRule_effect s u ((txDrainCheck_none_iff s).mp passed).2 done
  | txFlush =>
    obtain rfl := OpResult.done.inj done
    exact .flushMark s
  | qPush | qPush16 | qPush32 | qPush64 => exact pushRule_effect _ s u _ done
  | qPop =>
    obtain ⟨queued, done⟩ := check_done _ _ _ done
    exact popRule_effect s u (Nat.pos_of_ne_zero (by simpa using queued)) done
  | qClear =>
    obtain ⟨closed, done⟩ := check_done _ _ _ done
    obtain rfl := OpResult.done.inj done
    exact .clear s ((recClosedCheck_none_iff s).mp closed)
  | qPushBit a =>
    obtain ⟨own, done⟩ := check_done _ _ _ done
    exact pushBitRule_effect _ s u _ ((recForeignCheck_none_iff s).mp own) done
  | qFlushBits =>
    obtain ⟨-, done⟩ := check_done _ _ _ done
    split at done
    · obtain rfl := OpResult.done.inj done
      exact .unchanged _ s
    · obtain ⟨passed, done⟩ := check_done _ _ _ done
      obtain ⟨t, ok, rfl⟩ := pushAcc_done s u done
      exact .packByte _ s t s.bitacc ((pushCheck_none_iff s _).mp passed) ok
  | qRBegin =>
    obtain ⟨passed, done⟩ := check_done _ _ _ done
    obtain ⟨set, closed, -⟩ := (rbeginCheck_none_iff s).mp passed
    split at done
    · obtain rfl := OpResult.done.inj done
      exact .result _ s _ rfl
    · obtain rfl := OpResult.done.inj done
      exact .openRecord s _ set closed (by omega)
  | qREnd =>
    obtain ⟨passed, done⟩ := check_done _ _ _ done
    obtain ⟨opened, own, exact'⟩ := (rendCheck_none_iff s).mp passed
    split at done
    · obtain rfl := OpResult.done.inj done
      exact .closeRecord s opened own
    next pending =>
      cases acc : pushAcc s with
      | done v =>
        obtain ⟨t, ok, rfl⟩ := pushAcc_done s v acc
        rw [acc] at done
        obtain rfl := OpResult.done.inj done
        exact .closeRecordByte s t opened own (by rwa [flushCount, if_neg pending] at exact') ok
      | _ => simp [acc, closeRecord] at done
  | qSetDLen n =>
    obtain ⟨closed, done⟩ := check_done _ _ _ done
    obtain rfl := OpResult.done.inj done
    exact .setLength n s ((recClosedCheck_none_iff s).mp closed)
  | tStart =>
    obtain ⟨outside, done⟩ := unlessInWindow_done s u _ done
    obtain rfl := OpResult.done.inj done
    exact .start s outside
  | tNow =>
    rw [ruleOf] at done
    split at done
    · obtain rfl := OpResult.done.inj done
      exact .result _ s _ rfl
    · obtain ⟨ph2, own, rfl⟩ := nowNarrow_done s u done
      exact .deliver s ph2 own
  | tOvfSvc =>
    obtain ⟨outside, done⟩ := unlessInWindow_done s u _ done
    obtain rfl := OpResult.done.inj done
    split
    next pending => exact .service s outside pending.2
    next => exact .unchanged _ s

end Sys2Proof.Machine

namespace Sys2Proof.Machine

/-! How else a rule answers -/

/-- The rule answers for good in one step: it completes, raises a fault that is not ILLEGAL_OP, or the
model stops. -/
def OpResult.AtOnce (r : OpResult) : Prop :=
  match r with
  | .done _ | .stop _ => True
  | .raise c => c ≠ .illegalOp
  | .more _ | .hold => False

theorem check_atOnce {c : Option FaultCode} {r : OpResult} (code : c ≠ some .illegalOp)
    (rest : r.AtOnce) : (check c r).AtOnce := by
  cases c with
  | none => exact rest
  | some c => exact fun same => code (congrArg some same)

theorem ite_atOnce {p : Prop} [Decidable p] {r r' : OpResult} (first : r.AtOnce) (second : r'.AtOnce) :
    (if p then r else r').AtOnce := by
  split
  · exact first
  · exact second

/-! No check raises ILLEGAL_OP, which is raised for words only (R262). -/

theorem rxHeldCheck_code (s : State) : rxHeldCheck s ≠ some .illegalOp := by
  unfold rxHeldCheck; split <;> simp
theorem rxRangeCheck_code (s : State) (i : Byte) : rxRangeCheck s i ≠ some .illegalOp := by
  unfold rxRangeCheck; split <;> simp
theorem txClosedCheck_code (s : State) : txClosedCheck s ≠ some .illegalOp := by
  unfold txClosedCheck; split <;> simp
theorem txOwnerCheck_code (s : State) : txOwnerCheck s ≠ some .illegalOp := by
  unfold txOwnerCheck; split <;> simp
theorem txErrRangeCheck_code (k : Byte) : txErrRangeCheck k ≠ some .illegalOp := by
  unfold txErrRangeCheck; split <;> simp
theorem txDrainCheck_code (s : State) : txDrainCheck s ≠ some .illegalOp := by
  unfold txDrainCheck txClosedCheck; split_ifs <;> simp
theorem pushCheck_code (s : State) (k : Nat) : pushCheck s k ≠ some .illegalOp := by
  unfold pushCheck; split_ifs <;> simp
theorem recClosedCheck_code (s : State) : recClosedCheck s ≠ some .illegalOp := by
  unfold recClosedCheck; split <;> simp
theorem recForeignCheck_code (s : State) : recForeignCheck s ≠ some .illegalOp := by
  unfold recForeignCheck; split <;> simp
theorem rbeginCheck_code (s : State) : rbeginCheck s ≠ some .illegalOp := by
  unfold rbeginCheck; split_ifs <;> simp
theorem rendCheck_code (s : State) : rendCheck s ≠ some .illegalOp := by
  unfold rendCheck; split_ifs <;> simp

theorem rxStep_atOnce (s : State) (b : Byte) : (rxStep s b).AtOnce := by
  unfold rxStep
  split
  case h_4 => split <;> trivial
  all_goals trivial

theorem rxDataRead_atOnce (s : State) (i : Byte) : (rxDataRead s i).AtOnce := by
  unfold rxDataRead; split <;> trivial

theorem txDrainRule_atOnce (s : State) : (txDrainRule s).AtOnce := by
  unfold txDrainRule
  exact ite_atOnce trivial (by split <;> trivial)

theorem pushRule_atOnce (s : State) (bs : List Byte) : (pushRule s bs).AtOnce :=
  check_atOnce (pushCheck_code s _) (by cases pushBytes s bs <;> trivial)

theorem popRule_atOnce (s : State) : (popRule s).AtOnce := by
  unfold popRule; split <;> trivial

theorem pushAcc_atOnce (s : State) : (pushAcc s).AtOnce := by
  unfold pushAcc; split <;> trivial

theorem pushBitRule_atOnce (s : State) (d : Bool) : (pushBitRule s d).AtOnce := by
  unfold pushBitRule
  exact ite_atOnce (check_atOnce (pushCheck_code s 1) (pushAcc_atOnce _)) trivial

theorem closeRecord_atOnce (r : OpResult) (rest : r.AtOnce) : (closeRecord r).AtOnce := by
  cases r with
  | done t => trivial
  | _ => exact rest

/-- Only the operations of R9 can hold or take several steps. -/
theorem ruleOf_atOnce (i : Instr) (s : State) (brief : canHold i = false) : (ruleOf i s).AtOnce := by
  cases i with
  | cNop | cStatus | cInfo | rxStat | txFlush | qSpace | qAvail => trivial
  | rxCmd | rxLen | rxAck => exact check_atOnce (rxHeldCheck_code s) trivial
  | rxData ix =>
    exact check_atOnce (rxHeldCheck_code s) (check_atOnce (rxRangeCheck_code s ix) (rxDataRead_atOnce s ix))
  | txCmd | txData => exact check_atOnce (txClosedCheck_code s) trivial
  | txErr code k =>
    exact check_atOnce (txClosedCheck_code s) (check_atOnce (txErrRangeCheck_code k) trivial)
  | txByte | txEnd =>
    exact check_atOnce (txOwnerCheck_code s) (check_atOnce (by split <;> simp) trivial)
  | txDrain => exact check_atOnce (txDrainCheck_code s) (txDrainRule_atOnce s)
  | qPush | qPush16 | qPush32 | qPush64 => exact pushRule_atOnce s _
  | qPop => exact check_atOnce (by split <;> simp) (popRule_atOnce s)
  | qClear | qSetDLen => exact check_atOnce (recClosedCheck_code s) trivial
  | qPushBit a => exact check_atOnce (recForeignCheck_code s) (pushBitRule_atOnce s _)
  | qFlushBits =>
    exact check_atOnce (recForeignCheck_code s)
      (ite_atOnce trivial (check_atOnce (pushCheck_code s 1) (pushAcc_atOnce s)))
  | qRBegin => exact check_atOnce (rbeginCheck_code s) (ite_atOnce trivial trivial)
  | qREnd =>
    exact check_atOnce (rendCheck_code s) (closeRecord_atOnce _ (ite_atOnce trivial (pushAcc_atOnce s)))
  | rxByte | tStart | tNow | tOvfSvc => cases brief

/-- The rule of an operation that can hold never raises, and takes several steps only for T.NOW with
TSVAR = NARROW: those of PH1 and PH2 (44_timestamp.md R224). -/
theorem ruleOf_canHold (i : Instr) (s : State) (lasting : canHold i = true) :
    (∀ c, ruleOf i s ≠ .raise c) ∧ ∀ u, ruleOf i s = .more u →
      i = .tNow ∧ s.cfg.tsvar = .narrow ∧
        (s.nowPhase = .idle ∧ u = nowPh1 s ∨
          s.nowPhase = .ph1 ∧ s.nowPort = s.grant ∧ u = nowPh2 s) := by
  cases i with
  | rxByte b =>
    rw [ruleOf]
    split
    next => simp
    next =>
      unfold rxStep
      split
      case h_4 => split <;> simp
      all_goals simp
  | tStart | tOvfSvc =>
    simp only [ruleOf, unlessInWindow]
    split <;> simp
  | tNow =>
    rw [ruleOf]
    split
    next => simp
    next narrow =>
      unfold nowNarrow
      split
      next idle =>
        exact ⟨nofun, fun u more => ⟨rfl, narrow, .inl ⟨idle, (OpResult.more.inj more).symm⟩⟩⟩
      next ph1 =>
        split
        next own =>
          exact ⟨nofun, fun u more => ⟨rfl, narrow, .inr ⟨ph1, own, (OpResult.more.inj more).symm⟩⟩⟩
        next => simp
      next => split <;> simp
  | _ => cases lasting

/-! How an operation step ends -/

/-- `ExecNext i s t`: the step of `i` on the granted port of `s` ends with `t`. -/
inductive ExecNext (i : Instr) (s : State) : State → Prop where
  | completes (u : State) (done : ruleOf i s = .done u) (effect : Effect i s u) :
      ExecNext i s (u.complete s.grant)
  | begins (now : i = .tNow) (running : s.faulted = false) (narrow : s.cfg.tsvar = .narrow)
      (outside : s.nowPhase = .idle) : ExecNext i s ((nowPh1 s).wait s.grant)
  | samples (now : i = .tNow) (narrow : s.cfg.tsvar = .narrow) (ph1 : s.nowPhase = .ph1)
      (own : s.nowPort = s.grant) : ExecNext i s ((nowPh2 s).wait s.grant)
  | holds (lasting : canHold i = true) : ExecNext i s (s.wait s.grant)
  | faults (c : FaultCode) (raised : ruleOf i s = .raise c) (code : c ≠ .illegalOp)
      (running : s.faulted = false) :
      ExecNext i s ((s.recordFault c (encode i)).complete s.grant)
  | consumed (faulted : s.faulted = true) (inert : ¬actsAfterFault i s) :
      ExecNext i s (s.complete s.grant)

/-- What still acts after a fault raises none: a CTL operation reads, and a T.NOW takes its last steps. -/
theorem running_of_raise (i : Instr) (s : State) (c : FaultCode)
    (active : s.faulted = false ∨ actsAfterFault i s) (raised : ruleOf i s = .raise c) :
    s.faulted = false := by
  obtain running | control | ⟨rfl, -⟩ := active
  · exact running
  · cases i with
    | cNop | cStatus | cInfo => cases raised
    | _ => cases control
  · exact absurd raised ((ruleOf_canHold .tNow s rfl).1 c)

/-- PH1 is a new issue, so it comes only before a fault. -/
theorem running_of_idle (i : Instr) (s : State) (active : s.faulted = false ∨ actsAfterFault i s)
    (now : i = .tNow) (outside : s.nowPhase = .idle) : s.faulted = false := by
  obtain running | control | ⟨-, -, inside, -⟩ := active
  · exact running
  · rw [now] at control
    cases control
  · exact absurd outside inside

/-- Every end of an operation step is one of `ExecNext`. -/
theorem exec_next (i : Instr) (s t : State) (next : exec i s = .next t) : ExecNext i s t := by
  by_cases active : s.faulted = false ∨ actsAfterFault i s
  · rw [exec_eq_finish i s active] at next
    obtain ⟨u, done, rfl⟩ | ⟨u, more, rfl⟩ | ⟨hold, rfl⟩ | ⟨c, raised, rfl⟩ := finish_next i s t _ next
    · exact .completes u done (ruleOf_effect i s u done)
    · cases lasting : canHold i with
      | false =>
        have atOnce := ruleOf_atOnce i s lasting
        rw [more] at atOnce
        exact atOnce.elim
      | true =>
        obtain ⟨now, narrow, ⟨outside, rfl⟩ | ⟨ph1, own, rfl⟩⟩ := (ruleOf_canHold i s lasting).2 u more
        · exact .begins now (running_of_idle i s active now outside) narrow outside
        · exact .samples now narrow ph1 own
    · cases lasting : canHold i with
      | false =>
        have atOnce := ruleOf_atOnce i s lasting
        rw [hold] at atOnce
        exact atOnce.elim
      | true => exact .holds lasting
    · refine .faults c raised ?_ (running_of_raise i s c active raised)
      cases lasting : canHold i with
      | false =>
        have atOnce := ruleOf_atOnce i s lasting
        rwa [raised] at atOnce
      | true => exact absurd raised ((ruleOf_canHold i s lasting).1 c)
  · obtain ⟨faulted, inert⟩ := not_or.mp active
    rw [exec_consumed i s (by simpa using faulted) inert] at next
    obtain rfl := Host.Outcome.next.inj next
    exact .consumed (by simpa using faulted) inert

end Sys2Proof.Machine

/-! PROOF. What an operation leaves alone: the clients' side, the other ports' results (10_state.md R21, R22),
the encoder and the record of another port (42_frame_tx.md R158, 43_queue.md R182). Each is read off the ways
an operation step can end. -/

namespace Sys2Proof.Machine

/-! The registers that the primitives with a loop or a store write -/

theorem pushByte_only (s t : State) (b : Byte) (pushed : pushByte s b = .ok t) :
    t = { s with
      head := t.head
      wroteLast := t.wroteLast
      recCount := t.recCount
      qbuf := t.qbuf } := by
  obtain ⟨-, rfl⟩ := pushByte_ok s t b pushed
  rfl

theorem pushBytes_only (s t : State) (bs : List Byte) (pushed : pushBytes s bs = .ok t) :
    t = { s with
      head := t.head
      wroteLast := t.wroteLast
      recCount := t.recCount
      qbuf := t.qbuf } := by
  induction bs generalizing s with
  | nil =>
    obtain rfl := Except.ok.inj pushed
    rfl
  | cons b bs ih =>
    rw [pushBytes] at pushed
    split at pushed
    next u first =>
      obtain ⟨-, rfl⟩ := pushByte_ok s u b first
      exact (ih _ pushed).trans rfl
    next => cases pushed

theorem popByte_ok (s t : State) (b : Byte) (ok : popByte s = .ok (b, t)) :
    s.tail.toNat < s.cfg.n ∧ b = s.qbuf.read s.tail.toNat ∧ t = s.popped := by
  unfold popByte State.memRead at ok
  split at ok
  next b' read =>
    split at read
    next inside =>
      obtain ⟨rfl, rfl⟩ := Prod.mk.inj (Except.ok.inj ok)
      exact ⟨inside, (Except.ok.inj read).symm, rfl⟩
    next => cases read
  next => cases ok

theorem popBytes_only (s t : State) (k : Nat) (bs : List Byte) (ok : popBytes s k = .ok (bs, t)) :
    t = { s with tail := t.tail, wroteLast := t.wroteLast } := by
  induction k generalizing s bs with
  | zero =>
    obtain ⟨-, rfl⟩ := Prod.mk.inj (Except.ok.inj ok)
    rfl
  | succ k ih =>
    rw [popBytes] at ok
    split at ok
    next b u first =>
      obtain ⟨-, -, rfl⟩ := popByte_ok s u b first
      split at ok
      next bs' v rest =>
        obtain ⟨-, rfl⟩ := Prod.mk.inj (Except.ok.inj ok)
        exact (ih _ bs' rest).trans rfl
      next => cases ok
    next => cases ok

/-- The decoder writes its own registers and RXBUF (41_frame_rx.md R131). -/
theorem rxStep_only (s t : State) (b : Byte) (taken : rxStep s b = .done t) :
    t = { s with
      rxst := t.rxst
      rxsum := t.rxsum
      rxcmdr := t.rxcmdr
      rxlenr := t.rxlenr
      rxk := t.rxk
      rxValid := t.rxValid
      rxbuf := t.rxbuf } := by
  unfold rxStep at taken
  split at taken
  case h_1 =>
    obtain rfl := OpResult.done.inj taken
    split <;> rfl
  case h_4 =>
    split at taken
    next u stored =>
      obtain ⟨-, rfl⟩ := State.memWrite_ok _ _ _ _ _ stored
      obtain rfl := OpResult.done.inj taken
      rfl
    next => cases taken
  all_goals
    obtain rfl := OpResult.done.inj taken
    rfl

theorem countOverflow_only (s : State) :
    countOverflow s = { s with tally := (countOverflow s).tally, ovf := (countOverflow s).ovf } := rfl

/-- PH3 writes TALLY, OVF, NOW_PHASE and one DOUT (44_timestamp.md R224). -/
theorem nowPh3_only (s : State) :
    nowPh3 s = { s with
      tally := (nowPh3 s).tally
      ovf := (nowPh3 s).ovf
      dout := (nowPh3 s).dout
      nowPhase := .idle } := by
  unfold nowPh3
  cases nowCounts s <;> rfl

/-! The clients' side -/

/-- The parameters, the schedule and what belongs to the clients stand in `t` as they do in `s`. -/
def SameClients (s t : State) : Prop :=
  t.cfg = s.cfg ∧ t.din = s.din ∧ t.ops = s.ops ∧ t.opIndex = s.opIndex ∧
    t.outstanding = s.outstanding ∧ t.grant = s.grant ∧ t.sched = s.sched

theorem SameClients.refl (s : State) : SameClients s s := ⟨rfl, rfl, rfl, rfl, rfl, rfl, rfl⟩

theorem nowPh3_sameClients (s : State) : SameClients s (nowPh3 s) := by
  rw [nowPh3_only]
  exact .refl s

/-- No rule writes anything of the clients' side. -/
theorem Effect.sameClients {i : Instr} {s u : State} (effect : Effect i s u) : SameClients s u := by
  cases effect with
  | takeByte b _ _ _ taken =>
    rw [rxStep_only s u b taken]
    exact .refl s
  | drain _ v bs _ _ popped =>
    rw [popBytes_only s v _ bs popped]
    exact .refl s
  | push _ _ _ bs _ pushed =>
    rw [pushBytes_only s u bs pushed]
    exact .refl s
  | pop _ v b _ popped =>
    obtain ⟨-, -, rfl⟩ := popByte_ok s v b popped
    exact .refl s
  | packByte _ _ v acc _ pushed =>
    rw [pushByte_only _ v acc pushed]
    exact .refl s
  | closeRecordByte _ v _ _ _ pushed =>
    rw [pushByte_only s v _ pushed]
    exact .refl s
  | deliver => exact nowPh3_sameClients s
  | _ => exact .refl s


/-- The grant and the schedule stay, and no port but the granted one moves; that one is past its operation,
or at it and marked outstanding (R22; 00_scope.md R9). -/
theorem ExecNext.clients {i : Instr} {s t : State} (ended : ExecNext i s t) :
    t.cfg = s.cfg ∧ t.din = s.din ∧ t.ops = s.ops ∧ t.grant = s.grant ∧ t.sched = s.sched ∧
    (t.opIndex = s.opIndex.set s.grant (s.opIndex.get s.grant + 1) ∧
        t.outstanding = s.outstanding.set s.grant false ∨
      t.opIndex = s.opIndex ∧ t.outstanding = s.outstanding.set s.grant true ∧ canHold i = true) := by
  cases ended with
  | completes u _ effect =>
    obtain ⟨cfg, din, ops, index, outstanding, grant, sched⟩ := effect.sameClients
    exact ⟨cfg, din, ops, grant, sched, .inl ⟨by simp [index], by simp [outstanding]⟩⟩
  | begins now | samples now =>
    subst now
    exact ⟨rfl, rfl, rfl, rfl, rfl, .inr ⟨rfl, rfl, rfl⟩⟩
  | holds lasting => exact ⟨rfl, rfl, rfl, rfl, rfl, .inr ⟨rfl, rfl, lasting⟩⟩
  | faults c => simp
  | consumed => exact ⟨rfl, rfl, rfl, rfl, rfl, .inl ⟨rfl, rfl⟩⟩

/-- Settles O9: every end of a step either completes the granted port's operation or marks it outstanding. -/
theorem onlyTheGrantedPortAdvances : Obligations.OnlyTheGrantedPortAdvances := by
  intro i s t next
  obtain ⟨-, din, ops, grant, sched, ended⟩ := (exec_next i s t next).clients
  refine ⟨ops, din, sched, grant, fun q other => ?_, ?_⟩
  · obtain ⟨index, outstanding⟩ | ⟨index, outstanding, -⟩ := ended <;>
      simp [index, outstanding, PerPort.get_set_other _ _ _ _ other]
  · obtain ⟨index, outstanding⟩ | ⟨index, outstanding, lasting⟩ := ended
    · exact .inl (by simp [index, outstanding])
    · exact .inr ⟨by rw [index], by simp [outstanding], lasting⟩

/-! Results -/

theorem nowPh3_dout_own (s : State) (own : s.nowPort = s.grant) :
    (nowPh3 s).dout = s.dout.set s.grant (composeNow s.cfg.w (nowPh3 s).tally s.nowV) := by
  rw [nowPh3_dout, own]

/-- A rule writes no DOUT, or is one of R84's and writes the granted port's. -/
theorem Effect.dout {i : Instr} {s u : State} (effect : Effect i s u) :
    u.dout = s.dout ∨ writesDout i = true ∧ ∃ v, u.dout = s.dout.set s.grant v := by
  cases effect with
  | result _ _ v writes => exact .inr ⟨writes, v, rfl⟩
  | takeByte b _ _ _ taken =>
    rw [rxStep_only s u b taken]
    exact .inl rfl
  | drain _ v bs _ _ popped =>
    rw [popBytes_only s v _ bs popped]
    exact .inr ⟨rfl, _, rfl⟩
  | push _ _ _ bs _ pushed =>
    rw [pushBytes_only s u bs pushed]
    exact .inl rfl
  | pop _ v b _ popped =>
    obtain ⟨-, -, rfl⟩ := popByte_ok s v b popped
    exact .inr ⟨rfl, _, rfl⟩
  | packByte _ _ v acc _ pushed =>
    rw [pushByte_only _ v acc pushed]
    exact .inl rfl
  | openRecord _ v => exact .inr ⟨rfl, v, rfl⟩
  | closeRecordByte _ v _ _ _ pushed =>
    rw [pushByte_only s v _ pushed]
    exact .inl rfl
  | deliver _ _ own => exact .inr ⟨rfl, _, nowPh3_dout_own s own⟩
  | _ => exact .inl rfl

theorem ExecNext.dout {i : Instr} {s t : State} (ended : ExecNext i s t) :
    t.dout = s.dout ∨ writesDout i = true ∧ ∃ v, t.dout = s.dout.set s.grant v := by
  cases ended with
  | completes u _ effect => exact effect.dout
  | faults c => exact .inl (State.recordFault_dout s c _)
  | _ => exact .inl rfl

/-- Settles O10: at most the granted port's DOUT is written, by R84's operations. -/
theorem doutIsWrittenByItsOwnPort : Obligations.DoutIsWrittenByItsOwnPort := by
  intro i s t next
  obtain same | ⟨writes, v, set⟩ := (exec_next i s t next).dout
  · exact ⟨fun q _ => by rw [same], fun _ => same⟩
  · exact ⟨fun q other => by rw [set, PerPort.get_set_other _ _ _ _ other],
      fun silent => absurd writes (by simp [silent])⟩

/-! The TX stream and an open frame -/

/-- The encoder's registers stand in `t` as they do in `s`. -/
def SameEncoder (s t : State) : Prop :=
  t.txOpen = s.txOpen ∧ t.txPort = s.txPort ∧ t.txsum = s.txsum ∧ t.txrem = s.txrem

theorem SameEncoder.refl (s : State) : SameEncoder s s := ⟨rfl, rfl, rfl, rfl⟩

/-- A rule leaves the encoder and TXOUT alone, or puts a FLUSH on TXOUT, or puts events on it for the port
of the open frame or with no frame open. -/
theorem Effect.encoder {i : Instr} {s u : State} (effect : Effect i s u) :
    (SameEncoder s u ∧ (u.txout = s.txout ∨ u.txout = s.txout ++ [.flush])) ∨
    ((s.txOpen = false ∨ s.txPort = s.grant) ∧ s.txout <+: u.txout) := by
  cases effect with
  | takeByte b _ _ _ taken =>
    rw [rxStep_only s u b taken]
    exact .inl ⟨.refl s, .inl rfl⟩
  | openFrame _ _ header _ closed => exact .inr ⟨.inl closed, List.prefix_append _ _⟩
  | frameByte b _ _ own => exact .inr ⟨.inr own, List.prefix_append _ _⟩
  | closeFrame _ _ own => exact .inr ⟨.inr own, List.prefix_append _ _⟩
  | drain _ v bs closed _ popped =>
    rw [popBytes_only s v _ bs popped]
    exact .inr ⟨.inl closed, List.prefix_append _ _⟩
  | flushMark => exact .inl ⟨.refl s, .inr rfl⟩
  | push _ _ _ bs _ pushed =>
    rw [pushBytes_only s u bs pushed]
    exact .inl ⟨.refl s, .inl rfl⟩
  | pop _ v b _ popped =>
    obtain ⟨-, -, rfl⟩ := popByte_ok s v b popped
    exact .inl ⟨.refl s, .inl rfl⟩
  | packByte _ _ v acc _ pushed =>
    rw [pushByte_only _ v acc pushed]
    exact .inl ⟨.refl s, .inl rfl⟩
  | closeRecordByte _ v _ _ _ pushed =>
    rw [pushByte_only s v _ pushed]
    exact .inl ⟨.refl s, .inl rfl⟩
  | deliver =>
    rw [nowPh3_only]
    exact .inl ⟨.refl s, .inl rfl⟩
  | _ => exact .inl ⟨.refl s, .inl rfl⟩

theorem ExecNext.encoder {i : Instr} {s t : State} (ended : ExecNext i s t) :
    (SameEncoder s t ∧ (t.txout = s.txout ∨ t.txout = s.txout ++ [.flush])) ∨
    ((s.txOpen = false ∨ s.txPort = s.grant) ∧ s.txout <+: t.txout) := by
  cases ended with
  | completes u _ effect => exact effect.encoder
  | faults c => exact .inl (by simp [SameEncoder])
  | _ => exact .inl ⟨.refl s, .inl rfl⟩

/-- Settles O38: with a frame of another port open only the first case of `ExecNext.encoder` is left. -/
theorem foreignPortCannotTouchAnOpenFrame : Obligations.ForeignPortCannotTouchAnOpenFrame := by
  intro i s t opened foreign next
  obtain ⟨⟨txOpen, txPort, txsum, txrem⟩, txout⟩ | ⟨mine, -⟩ := (exec_next i s t next).encoder
  · exact ⟨txOpen.trans opened, txPort, txsum, txrem, txout⟩
  · obtain closed | own := mine
    · simp [opened] at closed
    · exact absurd own.symm foreign

theorem ExecNext.txout_prefix {i : Instr} {s t : State} (ended : ExecNext i s t) :
    s.txout <+: t.txout := by
  obtain ⟨-, same | flush⟩ | ⟨-, grown⟩ := ended.encoder
  · rw [same]
  · rw [flush]
    exact List.prefix_append _ _
  · exact grown

/-! An open record -/

/-- The queue's input side, the accumulator and the record's registers stand in `t` as they do in `s`. -/
def SameInput (s t : State) : Prop :=
  t.head = s.head ∧ t.qbuf = s.qbuf ∧ t.bitacc = s.bitacc ∧ t.bitcnt = s.bitcnt ∧
    t.recOpen = s.recOpen ∧ t.recPort = s.recPort ∧ t.recCount = s.recCount ∧ t.datalen = s.datalen

theorem SameInput.refl (s : State) : SameInput s s := ⟨rfl, rfl, rfl, rfl, rfl, rfl, rfl, rfl⟩

/-- Whatever writes the input side has checked that no record is open or that it is the granted port's. -/
theorem Effect.input {i : Instr} {s u : State} (effect : Effect i s u) :
    SameInput s u ∨ (s.recOpen = true → s.grant = s.recPort) := by
  cases effect with
  | takeByte b _ _ _ taken =>
    rw [rxStep_only s u b taken]
    exact .inl (.refl s)
  | drain _ v bs _ _ popped =>
    rw [popBytes_only s v _ bs popped]
    exact .inl (.refl s)
  | push _ _ _ bs fits _ => exact .inr fun opened => (fits.1 opened).1
  | pop _ v b _ popped =>
    obtain ⟨-, -, rfl⟩ := popByte_ok s v b popped
    exact .inl (.refl s)
  | clear _ closed | openRecord _ _ _ closed | setLength _ _ closed =>
    exact .inr fun opened => absurd opened (by simp [closed])
  | packBit _ _ _ own => exact .inr own
  | packByte _ _ _ _ fits _ => exact .inr fun opened => (fits.1 opened).1
  | closeRecord _ _ own | closeRecordByte _ _ _ own => exact .inr fun _ => own
  | deliver =>
    rw [nowPh3_only]
    exact .inl (.refl s)
  | _ => exact .inl (.refl s)

theorem ExecNext.input {i : Instr} {s t : State} (ended : ExecNext i s t) :
    SameInput s t ∨ (s.recOpen = true → s.grant = s.recPort) := by
  cases ended with
  | completes u _ effect => exact effect.input
  | faults c => exact .inl (by simp [SameInput])
  | _ => exact .inl (.refl s)

/-- Settles O51: another port's operation passes no check of an open record, so its step leaves the input side
as it was. -/
theorem foreignPortCannotTouchAnOpenRecord : Obligations.ForeignPortCannotTouchAnOpenRecord := by
  intro i s t opened foreign next
  obtain ⟨head, qbuf, bitacc, bitcnt, recOpen, recPort, recCount, datalen⟩ | own :=
    (exec_next i s t next).input
  · exact ⟨head, qbuf, bitacc, bitcnt, recOpen.trans opened, recPort, recCount, datalen⟩
  · exact absurd (own opened) foreign

/-! The fault registers -/

/-- No rule writes a fault register. -/
theorem Effect.sameFault {i : Instr} {s u : State} (effect : Effect i s u) : SameFault s u := by
  cases effect with
  | takeByte b _ _ _ taken =>
    rw [rxStep_only s u b taken]
    exact .refl s
  | drain _ v bs _ _ popped =>
    rw [popBytes_only s v _ bs popped]
    exact .refl s
  | push _ _ _ bs _ pushed =>
    rw [pushBytes_only s u bs pushed]
    exact .refl s
  | pop _ v b _ popped =>
    obtain ⟨-, -, rfl⟩ := popByte_ok s v b popped
    exact .refl s
  | packByte _ _ v acc _ pushed =>
    rw [pushByte_only _ v acc pushed]
    exact .refl s
  | closeRecordByte _ v _ _ _ pushed =>
    rw [pushByte_only s v _ pushed]
    exact .refl s
  | deliver => exact nowPh3_sameFault s
  | _ => exact .refl s

/-- Settles O16: of the ends of a step only that of a raise records a fault. -/
theorem firstFaultIsPrecise : Obligations.FirstFaultIsPrecise := by
  intro i s t running next faulted
  cases exec_next i s t next with
  | completes u _ effect => simp [effect.sameFault.1, running] at faulted
  | faults c _ code => exact ⟨c, code, by rw [State.recordFault_first s c _ running]⟩
  | consumed was _ => simp [running] at was
  | _ => exact absurd faulted (by simp [running, nowPh1, nowPh2])

/-- Settles O17: what is neither unit CTL nor a T.NOW between its steps does not act after a fault. -/
theorem afterFaultOnlyControlActs : Obligations.AfterFaultOnlyControlActs := by
  intro i s faulted data outside
  refine exec_consumed i s faulted ?_
  rintro (control | begun)
  · simp [data] at control
  · exact outside begun

end Sys2Proof.Machine

/-! PROOF. What a step can do (00_scope.md R8): it takes an event of the schedule, and a turn fetches, decodes
and performs. With this the statements about every step follow from those about every operation. -/

namespace Sys2Proof.Machine

/-! The step taken apart -/

theorem step_of_nil (s : State) (event : s.sched = []) : step s = .next s := by
  simp only [step, event]

theorem step_of_cons (s : State) (e : Event) (rest : List Event) (event : s.sched = e :: rest) :
    step s = perform e { s with sched := rest } := by
  simp only [step, event]

theorem turn_of_empty (s : State) (empty : s.currentOp s.grant = none) : turn s = .next s := by
  simp only [turn, empty]

theorem turn_of_legal (s : State) (w : OpWord) (i : Instr) (word : s.currentOp s.grant = some w)
    (legal : decode w = .ok i) : turn s = exec i s := by
  simp only [turn, word, legal]

theorem turn_of_illegal (s : State) (w : OpWord) (e : Illegal) (word : s.currentOp s.grant = some w)
    (illegal : decode w = .error e) :
    turn s = .next ((s.recordFault .illegalOp w).complete s.grant) := by
  simp only [turn, word, illegal, issueIllegal]

/-- `TurnNext s t`: the turn of the granted port of `s` ends with `t`. -/
inductive TurnNext (s : State) : State → Prop where
  | nothing (empty : s.currentOp s.grant = none) : TurnNext s s
  | operation (w : OpWord) (i : Instr) (t : State) (word : s.currentOp s.grant = some w)
      (legal : decode w = .ok i) (next : exec i s = .next t) : TurnNext s t
  | illegal (w : OpWord) (e : Illegal) (word : s.currentOp s.grant = some w)
      (illegal : decode w = .error e) : TurnNext s ((s.recordFault .illegalOp w).complete s.grant)

theorem turn_next (s t : State) (next : turn s = .next t) : TurnNext s t := by
  cases word : s.currentOp s.grant with
  | none =>
    rw [turn_of_empty s word] at next
    obtain rfl := Host.Outcome.next.inj next
    exact .nothing word
  | some w =>
    cases decoded : decode w with
    | ok i =>
      rw [turn_of_legal s w i word decoded] at next
      exact .operation w i t word decoded next
    | error e =>
      rw [turn_of_illegal s w e word decoded] at next
      obtain rfl := Host.Outcome.next.inj next
      exact .illegal w e word decoded

/-- `PerformNext e s t`: the event `e` takes `s` to `t`. -/
inductive PerformNext (s : State) : Event → State → Prop where
  | turn (p : Port) (t : State) (ended : TurnNext { s with grant := p } t) : PerformNext s (.turn p) t
  | tick : PerformNext s .tick s.tick
  | setDin (p : Port) (v : Data) : PerformNext s (.setDin p v) (s.writeDin p v)
  | reset : PerformNext s .reset s.applyReset

theorem perform_next (e : Event) (s t : State) (next : perform e s = .next t) : PerformNext s e t := by
  cases e with
  | turn p => exact .turn p t (turn_next _ _ next)
  | tick =>
    obtain rfl := Host.Outcome.next.inj next
    exact .tick
  | setDin p v =>
    obtain rfl := Host.Outcome.next.inj next
    exact .setDin p v
  | reset =>
    obtain rfl := Host.Outcome.next.inj next
    exact .reset

/-- A step does nothing, with no event left, or takes the next event. -/
theorem step_next (s t : State) (next : step s = .next t) :
    s.sched = [] ∧ t = s ∨
      ∃ e rest, s.sched = e :: rest ∧ PerformNext { s with sched := rest } e t := by
  cases event : s.sched with
  | nil =>
    rw [step_of_nil s event] at next
    exact .inl ⟨rfl, (Host.Outcome.next.inj next).symm⟩
  | cons e rest =>
    rw [step_of_cons s e rest event] at next
    exact .inr ⟨e, rest, rfl, perform_next e _ _ next⟩

/-! What a tick writes -/

/-- A tick writes CNT, OVF, OVF_LOST and CHRAW only (44_timestamp.md R231, R232). -/
theorem State.tick_only (s : State) : s.tick = { s with
    cnt := s.tick.cnt
    ovf := s.tick.ovf
    ovfLost := s.tick.ovfLost
    chraw := s.tick.chraw } := by
  unfold State.tick tickNarrow tickChained
  split
  · split
    · split <;> rfl
    · rfl
  · rfl

/-! The statements of the step -/

/-- Settles O5: the event, the word and its operation lead to the same `exec`. -/
theorem stepRunsDecodedOperation : Obligations.StepRunsDecodedOperation := by
  intro s p rest w i event word legal
  rw [step_of_cons s _ rest event]
  exact turn_of_legal { s with sched := rest, grant := p } w i word legal

/-- Settles O6: `recordFault` records the first fault and no later one. -/
theorem illegalWordRaisesIllegalOp : Obligations.IllegalWordRaisesIllegalOp := by
  intro s p rest w e event word illegal
  have ends : step s = .next ((({ s with sched := rest, grant := p } : State).recordFault .illegalOp
      w).complete p) := by
    rw [step_of_cons s _ rest event]
    exact turn_of_illegal { s with sched := rest, grant := p } w e word illegal
  refine ⟨fun running => ?_, fun faulted => ?_⟩
  · rw [ends, State.recordFault_first { s with sched := rest, grant := p } _ _ running]
    rfl
  · rw [ends, State.recordFault_later { s with sched := rest, grant := p } _ _ faulted]

/-- Settles O7: one clause for no event, an empty list and a write of DIN. -/
theorem clientEventsTouchOnlyTheirOwn : Obligations.ClientEventsTouchOnlyTheirOwn := by
  refine fun s => ⟨step_of_nil s, fun p rest event empty => ?_, fun p v rest event => ?_⟩
  · rw [step_of_cons s _ rest event]
    exact turn_of_empty { s with sched := rest, grant := p } empty
  · exact ⟨_, step_of_cons s _ rest event, rfl, PerPort.get_set_same _ _ _,
      fun q other => PerPort.get_set_other _ _ _ _ other⟩

theorem TurnNext.cfg_sched {s t : State} (ended : TurnNext s t) : t.cfg = s.cfg ∧ t.sched = s.sched := by
  cases ended with
  | nothing => exact ⟨rfl, rfl⟩
  | operation w i _ _ _ next =>
    obtain ⟨cfg, -, -, -, sched, -⟩ := (exec_next i s t next).clients
    exact ⟨cfg, sched⟩
  | illegal => simp

theorem PerformNext.cfg_sched {e : Event} {s t : State} (ended : PerformNext s e t) :
    t.cfg = s.cfg ∧ t.sched = s.sched := by
  cases ended with
  | turn p _ turned => exact turned.cfg_sched
  | tick =>
    rw [State.tick_only]
    exact ⟨rfl, rfl⟩
  | setDin => exact ⟨rfl, rfl⟩
  | reset => exact ⟨rfl, rfl⟩

/-- Settles O8: the schedule loses its first event before that event is performed, and no event writes the
parameters or the schedule. -/
theorem stepKeepsParameters : Obligations.StepKeepsParameters := by
  intro s t next
  obtain ⟨event, rfl⟩ | ⟨e, rest, event, performed⟩ := step_next s t next
  · simp [event]
  · simpa [event] using performed.cfg_sched

theorem PerformNext.txout_prefix {e : Event} {s t : State} (ended : PerformNext s e t)
    (noReset : e ≠ .reset) : s.txout <+: t.txout := by
  cases ended with
  | turn p _ turned =>
    cases turned with
    | nothing => exact List.prefix_rfl
    | operation w i _ _ _ next => exact (exec_next i _ t next).txout_prefix
    | illegal => simp
  | tick =>
    rw [State.tick_only]
  | setDin => exact List.prefix_rfl
  | reset => exact absurd rfl noReset

/-- Settles O37: no event but reset takes anything from TXOUT. -/
theorem txStreamOnlyGrows : Obligations.TxStreamOnlyGrows := by
  intro s t noReset next
  obtain ⟨event, rfl⟩ | ⟨e, rest, event, performed⟩ := step_next s t next
  · exact List.prefix_rfl
  · exact performed.txout_prefix (by simpa [event] using noReset)

/-! Reset -/

theorem abandonAt_eq (s : State) (p : Port) :
    abandonAt s p = s.opIndex.get p + if s.outstanding.get p then 1 else 0 := by
  unfold abandonAt
  split <;> rfl

/-- Settles O15: the reset event leaves the registers of `State.resetWith` and what belongs to the clients. -/
theorem resetEventRestoresTheRegisters : Obligations.ResetEventRestoresTheRegisters := by
  intro s rest event
  refine ⟨_, step_of_cons s _ rest event, State.resetWith_registers s.cfg, ?_, rfl, rfl, rfl,
    fun p => ?_, rfl, rfl, fun _ => rfl, fun _ => rfl⟩
  · simp [State.irqOvf, State.applyReset, State.resetWith]
  · cases p <;> exact ⟨rfl, abandonAt_eq { s with sched := rest } _⟩

theorem State.resetWith_wf (c : Params) (legal : c.Legal) : (State.resetWith c).Wf := by
  have positive : 0 < c.n := Nat.lt_of_lt_of_le (by decide) legal.1
  have queue : (State.resetWith c).QueueWf := ⟨positive, positive, rfl, rfl⟩
  have time : (State.resetWith c).TimeWf :=
    ⟨Nat.two_pow_pos _, Nat.two_pow_pos _, Nat.two_pow_pos _, rfl, fun _ => ⟨rfl, rfl, rfl, rfl, rfl⟩⟩
  exact ⟨legal, queue, ⟨fun _ => rfl, nofun⟩, time, fun inside => absurd rfl inside,
    ⟨nofun, nofun, nofun, rfl, rfl⟩, ⟨fun _ => ⟨rfl, rfl⟩, rfl⟩, fun _ => ⟨rfl, rfl, rfl⟩, nofun⟩

/-- Settles O12, part by part of the invariant. -/
theorem resetIsWellFormed : Obligations.ResetIsWellFormed :=
  ⟨State.resetWith_wf, State.resetWith_wf _ (by decide)⟩

end Sys2Proof.Machine

/-! PROOF. The invariant of the block (10_state.md R53 and what it rests on), part by part: the queue, the open
record, the counter, the window of a T.NOW, the decoder, the encoder and the fault registers. Each part is
kept by every way a rule can complete; the ends of a step and the events that are no operation follow. -/

namespace Sys2Proof.Machine

theorem capacity_pos {c : Params} (legal : c.Legal) : 0 < c.n :=
  Nat.lt_of_lt_of_le (by decide) legal.1

/-! The queue -/

theorem pushed_queueWf (s : State) (b : Byte) (positive : 0 < s.cfg.n) (queue : s.QueueWf) :
    (s.setByte .qbuf s.head.toNat b).pushed.QueueWf := by
  obtain ⟨head, tail, canonical, bounded⟩ := queue
  exact ⟨by simpa using nextIndex_lt _ _ positive, by simpa using tail,
    by simpa using Memory.write_wf _ _ _ canonical,
    by simpa using Memory.write_bounded _ _ b _ head bounded⟩

theorem pushBytes_queueWf (s t : State) (bs : List Byte) (positive : 0 < s.cfg.n) (queue : s.QueueWf)
    (pushed : pushBytes s bs = .ok t) : t.QueueWf := by
  induction bs generalizing s with
  | nil =>
    obtain rfl := Except.ok.inj pushed
    exact queue
  | cons b bs ih =>
    rw [pushBytes_cons s b bs queue.1] at pushed
    exact ih _ (by simpa using positive) (pushed_queueWf s b positive queue) pushed

/-- One byte pushed is a list of one byte pushed. -/
theorem pushBytes_singleton (s t : State) (b : Byte) (pushed : pushByte s b = .ok t) :
    pushBytes s [b] = .ok t := by
  simp only [pushBytes, pushed]

/-- The bytes popped are the queue's first, in order; the rest stays queued (43_queue.md R188). -/
theorem popBytes_contents (s t : State) (k : Nat) (bs : List Byte) (legal : s.cfg.Legal)
    (queue : s.QueueWf) (enough : k ≤ s.occ) (popped : popBytes s k = .ok (bs, t)) :
    t.QueueWf ∧ t.occ + k = s.occ ∧ bs = (contents s).take k ∧ contents t = (contents s).drop k := by
  induction k generalizing s bs with
  | zero =>
    obtain ⟨rfl, rfl⟩ := Prod.mk.inj (Except.ok.inj popped)
    exact ⟨queue, rfl, rfl, rfl⟩
  | succ k ih =>
    have first := popByte_eq s queue.2.1
    obtain ⟨queue', occ', contents'⟩ := contents_pop s (capacity_pos legal) legal.2.1 queue (by omega)
    simp only [popBytes, first] at popped
    split at popped
    next bs' u rest =>
      obtain ⟨rfl, rfl⟩ := Prod.mk.inj (Except.ok.inj popped)
      obtain ⟨queue'', occ'', taken, left⟩ := ih s.popped bs' legal queue' (by omega) rest
      refine ⟨queue'', by omega, ?_, ?_⟩
      · rw [contents', List.take_succ_cons, taken]
      · rw [contents', List.drop_succ_cons, left]
    next => cases popped

/-- Every rule keeps the indices in the queue and QBUF in its form. -/
theorem Effect.queueWf {i : Instr} {s u : State} (effect : Effect i s u) (legal : s.cfg.Legal)
    (queue : s.QueueWf) : u.QueueWf := by
  cases effect with
  | takeByte b _ _ _ taken =>
    rw [rxStep_only s u b taken]
    exact queue
  | drain _ v bs _ enough popped => exact (popBytes_contents s v _ bs legal queue enough popped).1
  | push _ _ _ bs _ pushed => exact pushBytes_queueWf s u bs (capacity_pos legal) queue pushed
  | pop _ v b queued popped =>
    obtain ⟨-, -, rfl⟩ := popByte_ok s v b popped
    exact (contents_pop s (capacity_pos legal) legal.2.1 queue queued).1
  | clear => exact ⟨capacity_pos legal, capacity_pos legal, queue.2.2⟩
  | packByte _ _ v acc _ pushed =>
    exact pushBytes_queueWf { s with bitacc := acc } v [acc] (capacity_pos legal) queue
      (pushBytes_singleton _ v acc pushed)
  | closeRecordByte _ v _ _ _ pushed =>
    exact pushBytes_queueWf s v [s.bitacc] (capacity_pos legal) queue (pushBytes_singleton s v _ pushed)
  | deliver =>
    rw [nowPh3_only]
    exact queue
  | _ => exact queue

/-! The open record -/

/-- What a push of bytes that fit does to the record: it counts them, and SPACE shrinks by as many. -/
theorem pushBytes_recordWf (s t : State) (bs : List Byte) (legal : s.cfg.Legal) (queue : s.QueueWf)
    (record : s.RecordWf) (fits : PushFits s bs.length) (pushed : pushBytes s bs = .ok t) :
    t.RecordWf := by
  have room := s.space_add_occ queue
  have room' := t.space_add_occ (pushBytes_queueWf s t bs (capacity_pos legal) queue pushed)
  have list := pushBytes_contents s t bs (capacity_pos legal) legal.2.1 queue (by have := fits.2; omega) pushed
  have occ : t.occ = s.occ + bs.length := by simpa [contents_length] using congrArg List.length list
  have registers := pushBytes_registers s t bs (capacity_pos legal) legal.2.1 queue.1 pushed
  have cfg : t.cfg = s.cfg := by rw [registers]
  have recOpen : t.recOpen = s.recOpen := by rw [registers]
  have datalen : t.datalen = s.datalen := by rw [registers]
  have recCount : t.recCount = if s.recOpen then s.recCount + BitVec.ofNat 9 bs.length else s.recCount := by
    rw [registers]
  obtain ⟨closed, opened⟩ := record
  rw [State.RecordWf, recOpen, datalen, recCount]
  refine ⟨fun shut => by simpa [shut] using closed shut, fun isOpen => ?_⟩
  obtain ⟨counted, set, fit⟩ := opened isOpen
  have within := (fits.1 isOpen).2
  have := s.datalen.isLt
  rw [cfg] at room'
  rw [if_pos isOpen, BitVec.toNat_add, BitVec.toNat_ofNat]
  omega

theorem popBytes_recordWf (s t : State) (k : Nat) (bs : List Byte) (legal : s.cfg.Legal)
    (queue : s.QueueWf) (record : s.RecordWf) (enough : k ≤ s.occ)
    (popped : popBytes s k = .ok (bs, t)) : t.RecordWf := by
  obtain ⟨queue', occ, -, -⟩ := popBytes_contents s t k bs legal queue enough popped
  have room := s.space_add_occ queue
  have room' := t.space_add_occ queue'
  have only := popBytes_only s t k bs popped
  have cfg : t.cfg = s.cfg := by rw [only]
  have recOpen : t.recOpen = s.recOpen := by rw [only]
  have datalen : t.datalen = s.datalen := by rw [only]
  have recCount : t.recCount = s.recCount := by rw [only]
  obtain ⟨closed, opened⟩ := record
  rw [State.RecordWf, recOpen, datalen, recCount]
  refine ⟨closed, fun isOpen => ?_⟩
  obtain ⟨counted, set, fit⟩ := opened isOpen
  rw [cfg] at room'
  omega

theorem popBytes_one (s t : State) (b : Byte) (popped : popByte s = .ok (b, t)) :
    popBytes s 1 = .ok ([b], t) := by
  simp only [popBytes, popped]

/-- Every rule keeps the record's registers within DATALEN and its missing bytes within SPACE. -/
theorem Effect.recordWf {i : Instr} {s u : State} (effect : Effect i s u) (legal : s.cfg.Legal)
    (queue : s.QueueWf) (record : s.RecordWf) : u.RecordWf := by
  cases effect with
  | takeByte b _ _ _ taken =>
    rw [rxStep_only s u b taken]
    exact record
  | drain _ v bs _ enough popped => exact popBytes_recordWf s v _ bs legal queue record enough popped
  | push _ _ _ bs fits pushed => exact pushBytes_recordWf s u bs legal queue record fits pushed
  | pop _ v b queued popped =>
    exact popBytes_recordWf s v 1 [b] legal queue record queued (popBytes_one s v b popped)
  | clear _ closed => exact ⟨record.1, fun opened => absurd opened (by simp [closed])⟩
  | packByte _ _ v acc fits pushed =>
    exact pushBytes_recordWf { s with bitacc := acc } v [acc] legal queue record fits
      (pushBytes_singleton _ v acc pushed)
  | openRecord _ _ set _ room =>
    refine ⟨nofun, fun _ => ⟨Nat.zero_le _, ?_, ?_⟩⟩
    · exact Nat.one_le_iff_ne_zero.mpr fun zero => set (BitVec.eq_of_toNat_eq zero)
    · exact room.trans (Nat.le_add_left _ _)
  | closeRecord | closeRecordByte => exact ⟨fun _ => rfl, nofun⟩
  | setLength _ _ closed => exact ⟨record.1, fun opened => absurd opened (by simp [closed])⟩
  | deliver =>
    rw [nowPh3_only]
    exact record
  | _ => exact record

/-! The counter -/

/-- The parameters and unit T's registers stand in `t` as they do in `s`. -/
def SameTime (s t : State) : Prop :=
  t.cfg = s.cfg ∧ t.tally = s.tally ∧ t.cnt = s.cnt ∧ t.ovf = s.ovf ∧ t.ovfLost = s.ovfLost ∧
    t.run = s.run ∧ t.ovfie = s.ovfie ∧ t.chraw = s.chraw ∧ t.nowPhase = s.nowPhase ∧
    t.nowPort = s.nowPort ∧ t.nowPre = s.nowPre ∧ t.nowV = s.nowV

theorem SameTime.refl (s : State) : SameTime s s :=
  ⟨rfl, rfl, rfl, rfl, rfl, rfl, rfl, rfl, rfl, rfl, rfl, rfl⟩

/-- What T.START leaves (44_timestamp.md R222). -/
def started (s : State) : State :=
  { s with
    tally := 0
    cnt := 0
    ovf := false
    ovfLost := false
    chraw := 0xFFFFFFFFFFFFFFFF#64
    run := true
    ovfie := true }

/-- A rule leaves unit T's registers alone, or is T.START's or T.OVFSVC's outside the window, or PH3 of the
granted port's T.NOW. -/
theorem Effect.unitT {i : Instr} {s u : State} (effect : Effect i s u) :
    SameTime s u ∨ (i = .tStart ∧ s.nowPhase = .idle ∧ u = started s) ∨
    (i = .tNow ∧ s.nowPhase = .ph2 ∧ s.nowPort = s.grant ∧ u = nowPh3 s) ∨
    (i = .tOvfSvc ∧ s.nowPhase = .idle ∧ s.ovf = true ∧ u = countOverflow s) := by
  cases effect with
  | takeByte b _ _ _ taken =>
    rw [rxStep_only s u b taken]
    exact .inl (.refl s)
  | drain _ v bs _ enough popped =>
    rw [popBytes_only s v _ bs popped]
    exact .inl (.refl s)
  | push _ _ _ bs _ pushed =>
    rw [pushBytes_only s u bs pushed]
    exact .inl (.refl s)
  | pop _ v b _ popped =>
    obtain ⟨-, -, rfl⟩ := popByte_ok s v b popped
    exact .inl (.refl s)
  | packByte _ _ v acc _ pushed =>
    rw [pushByte_only _ v acc pushed]
    exact .inl (.refl s)
  | closeRecordByte _ v _ _ _ pushed =>
    rw [pushByte_only s v _ pushed]
    exact .inl (.refl s)
  | start _ outside => exact .inr (.inl ⟨rfl, outside, rfl⟩)
  | deliver _ ph2 own => exact .inr (.inr (.inl ⟨rfl, ph2, own, rfl⟩))
  | service _ outside pending => exact .inr (.inr (.inr ⟨rfl, outside, pending, rfl⟩))
  | _ => exact .inl (.refl s)

theorem countOverflow_timeWf (s : State) (time : s.TimeWf) (pending : s.ovf = true) :
    (countOverflow s).TimeWf := by
  obtain ⟨cnt, nowV, -, go, stopped⟩ := time
  refine ⟨cnt, nowV, incMod_toNat_lt _ _, go, fun still => ?_⟩
  obtain ⟨-, -, clear, -⟩ := stopped still
  simp [clear] at pending

/-- An overflow counted at PH3 is pending: seen at PH1 it stays set in the window. -/
theorem pending_of_nowCounts (s : State) (window : s.WindowWf) (ph2 : s.nowPhase = .ph2)
    (counts : nowCounts s = true) : s.ovf = true := by
  obtain ⟨-, -, -, kept⟩ := window (by simp [ph2])
  simp only [nowCounts, Bool.or_eq_true, Bool.and_eq_true] at counts
  obtain before | ⟨now, -⟩ := counts
  · exact kept before
  · exact now

theorem nowPh3_timeWf (s : State) (time : s.TimeWf) (window : s.WindowWf) (ph2 : s.nowPhase = .ph2) :
    (nowPh3 s).TimeWf := by
  cases counts : nowCounts s with
  | true =>
    simpa [nowPh3, counts] using countOverflow_timeWf s time (pending_of_nowCounts s window ph2 counts)
  | false => simpa [nowPh3, counts] using time

/-- Every rule keeps the counter's registers within their widths. -/
theorem Effect.timeWf {i : Instr} {s u : State} (effect : Effect i s u) (time : s.TimeWf)
    (window : s.WindowWf) : u.TimeWf := by
  obtain same | ⟨-, -, rfl⟩ | ⟨-, ph2, -, rfl⟩ | ⟨-, -, pending, rfl⟩ := effect.unitT
  · obtain ⟨cfg, tally, cnt, ovf, ovfLost, run, ovfie, chraw, -, -, -, nowV⟩ := same
    rw [State.TimeWf, cfg, tally, cnt, ovf, ovfLost, run, ovfie, chraw, nowV]
    exact time
  · exact ⟨Nat.two_pow_pos _, time.2.1, Nat.two_pow_pos _, rfl, nofun⟩
  · exact nowPh3_timeWf s time window ph2
  · exact countOverflow_timeWf s time pending

theorem State.tick_timeWf (s : State) (time : s.TimeWf) : s.tick.TimeWf := by
  cases run : s.run with
  | false => rwa [s.tick_stopped run]
  | true =>
    obtain ⟨cnt, nowV, tally, go, -⟩ := time
    have notStopped : ∀ p : Prop, s.run = false → p := fun p still => by simp [run] at still
    cases tsvar : s.cfg.tsvar with
    | chained =>
      rw [s.tick_chained run tsvar]
      exact ⟨cnt, nowV, tally, go, notStopped _⟩
    | narrow =>
      rw [s.tick_narrow run tsvar]
      unfold tickNarrow
      split
      · exact ⟨Nat.two_pow_pos _, nowV, tally, go, notStopped _⟩
      · exact ⟨incMod_toNat_lt _ _, nowV, tally, go, notStopped _⟩

end Sys2Proof.Machine

namespace Sys2Proof.Machine

/-! The window of a T.NOW -/

/-- What the window rests on stands in `t` as it does in `s`, the outstanding mark apart. -/
def SameWindow (s t : State) : Prop :=
  t.nowPhase = s.nowPhase ∧ t.nowPort = s.nowPort ∧ t.nowPre = s.nowPre ∧ t.ovf = s.ovf

theorem SameWindow.refl (s : State) : SameWindow s s := ⟨rfl, rfl, rfl, rfl⟩

/-- Every rule leaves the window as it was, or leaves none open: T.START and T.OVFSVC hold in it
(44_timestamp.md R226). -/
theorem Effect.sameWindow {i : Instr} {s u : State} (effect : Effect i s u) :
    SameWindow s u ∨ u.nowPhase = .idle := by
  obtain same | ⟨-, outside, rfl⟩ | ⟨-, -, -, rfl⟩ | ⟨-, outside, -, rfl⟩ := effect.unitT
  · obtain ⟨-, -, -, ovf, -, -, -, -, phase, port, pre, -⟩ := same
    exact .inl ⟨phase, port, pre, ovf⟩
  · exact .inr outside
  · rw [nowPh3_only]
    exact .inr rfl
  · exact .inr outside

/-- The window stays open over the end of another port's operation. -/
theorem windowWf_of_other {s t : State} (window : s.WindowWf) (same : SameWindow s t)
    (cfg : t.cfg = s.cfg) (other : s.nowPhase ≠ .idle → s.nowPort ≠ s.grant)
    (place : ∀ q, q ≠ s.grant → t.currentOp q = s.currentOp q ∧
      t.outstanding.get q = s.outstanding.get q) : t.WindowWf := by
  obtain ⟨phase, port, pre, ovf⟩ := same
  intro inside
  rw [phase] at inside
  obtain ⟨narrow, word, outstanding, kept⟩ := window inside
  obtain ⟨word', outstanding'⟩ := place s.nowPort (other inside)
  rw [cfg, port, word', outstanding', pre, ovf]
  exact ⟨narrow, word, outstanding, kept⟩

theorem ExecNext.place {i : Instr} {s t : State} (ended : ExecNext i s t) (q : Port)
    (other : q ≠ s.grant) :
    t.currentOp q = s.currentOp q ∧ t.outstanding.get q = s.outstanding.get q := by
  obtain ⟨-, -, ops, -, -, ⟨index, outstanding⟩ | ⟨index, outstanding, -⟩⟩ := ended.clients <;>
    simp [State.currentOp, ops, index, outstanding, PerPort.get_set_other _ _ _ _ other]

/-- In the window the operation of NOW_PORT is the T.NOW in progress (log 13). -/
theorem now_of_window {i : Instr} {s : State} {w : OpWord} (window : s.WindowWf)
    (word : s.currentOp s.grant = some w) (legal : decode w = .ok i) (inside : s.nowPhase ≠ .idle)
    (own : s.nowPort = s.grant) : i = .tNow := by
  obtain ⟨-, now, -, -⟩ := window inside
  rw [own, word] at now
  exact decode_word_eq w i legal .tNow rfl (Option.some.inj now)

/-- A T.NOW of the granted port that completes in its window closes it. -/
theorem closed_of_done {s u : State} (window : s.WindowWf) (inside : s.nowPhase ≠ .idle)
    (done : ruleOf .tNow s = .done u) : u.nowPhase = .idle := by
  obtain ⟨narrow, -⟩ := window inside
  rw [ruleOf, narrow] at done
  obtain ⟨-, -, rfl⟩ := nowNarrow_done s u done
  rw [nowPh3_only]

/-- An operation step that performs a fetched word keeps the window. -/
theorem ExecNext.windowWf {i : Instr} {s t : State} {w : OpWord} (ended : ExecNext i s t)
    (word : s.currentOp s.grant = some w) (legal : decode w = .ok i) (window : s.WindowWf) :
    t.WindowWf := by
  have place := ended.place
  have own_now := now_of_window window word legal
  cases ended with
  | completes u done effect =>
    obtain same | closed := effect.sameWindow
    · by_cases mine : s.nowPhase ≠ .idle ∧ s.nowPort = s.grant
      · obtain rfl := own_now mine.1 mine.2
        exact fun inside => absurd (closed_of_done window mine.1 done) inside
      · exact windowWf_of_other window same effect.sameClients.1
          (fun inside own => mine ⟨inside, own⟩) place
    · exact fun inside => absurd closed inside
  | begins now _ narrow _ =>
    subst now
    have word' : w = encode .tNow := ((encode_of_decode w _ legal).1).symm
    exact fun _ => ⟨narrow, word.trans (congrArg some word'), PerPort.get_set_same _ _ _, id⟩
  | samples _ _ ph1 own =>
    obtain ⟨narrow, now, -, kept⟩ := window (by simp [ph1])
    exact fun _ => ⟨narrow, now, by simp [nowPh2, own], kept⟩
  | holds =>
    intro inside
    obtain ⟨narrow, now, outstanding, kept⟩ := window inside
    refine ⟨narrow, now, ?_, kept⟩
    by_cases own : s.nowPort = s.grant
    · simp [own]
    · simpa [PerPort.get_set_other _ _ _ _ own] using outstanding
  | faults c raised =>
    refine windowWf_of_other window (by simp [SameWindow]) (by simp) (fun inside own => ?_) place
    obtain rfl := own_now inside own
    exact (ruleOf_canHold .tNow s rfl).1 c raised
  | consumed _ inert =>
    refine windowWf_of_other window (.refl s) rfl (fun inside own => ?_) place
    obtain ⟨narrow, -⟩ := window inside
    exact inert (.inr ⟨own_now inside own, narrow, inside, own⟩)

/-- A tick keeps OVF set (44_timestamp.md R231). -/
theorem State.tick_ovf (s : State) (pending : s.ovf = true) : s.tick.ovf = true := by
  unfold State.tick tickNarrow tickChained
  split
  · split
    · split
      · rfl
      · exact pending
    · exact pending
  · exact pending

theorem State.tick_windowWf (s : State) (window : s.WindowWf) : s.tick.WindowWf := by
  have ovf := s.tick_ovf
  rw [s.tick_only]
  intro inside
  obtain ⟨narrow, now, outstanding, kept⟩ := window inside
  exact ⟨narrow, now, outstanding, fun before => ovf (kept before)⟩

/-! The decoder -/

theorem next_payload_iff (done : Prop) [Decidable done] :
    (if done then RxState.chk else .payload) = .payload ↔ ¬done := by
  split <;> simp_all

theorem next_chk_iff (done : Prop) [Decidable done] :
    (if done then RxState.chk else .payload) = .chk ↔ done := by
  split <;> simp_all

/-- The decoder counts the payload up to the declared length and hunts while a frame is held
(41_frame_rx.md R131). -/
theorem rxStep_rxWf (s u : State) (b : Byte) (rx : s.RxWf) (free : s.rxValid = false)
    (taken : rxStep s b = .done u) : u.RxWf := by
  obtain ⟨-, short, full, canonical, bounded⟩ := rx
  unfold rxStep at taken
  split at taken
  case h_1 hunt =>
    obtain rfl := OpResult.done.inj taken
    split
    · exact ⟨fun held => absurd held (by simp [free]), nofun, nofun, canonical, bounded⟩
    · exact ⟨fun held => absurd held (by simp [free]), short, full, canonical, bounded⟩
  case h_2 =>
    obtain rfl := OpResult.done.inj taken
    exact ⟨fun held => absurd held (by simp [free]), nofun, nofun, canonical, bounded⟩
  case h_3 =>
    obtain rfl := OpResult.done.inj taken
    refine ⟨fun held => absurd held (by simp [free]), fun payload => ?_, fun chk => ?_, canonical,
      bounded⟩
    · have declared : b ≠ 0 := (next_payload_iff _).mp payload
      change 0 < b.toNat
      bv_omega
    · exact ((next_chk_iff _).mp chk).symm
  case h_4 payload =>
    have below := short payload
    split at taken
    next v stored =>
      obtain ⟨inside, rfl⟩ := State.memWrite_ok _ _ _ _ _ stored
      obtain rfl := OpResult.done.inj taken
      refine ⟨fun held => absurd held (by simp [free]), fun payload => ?_, fun chk => ?_, ?_⟩
      · have more : s.rxk + 1 ≠ s.rxlenr := (next_payload_iff _).mp payload
        change (s.rxk + 1).toNat < s.rxlenr.toNat
        bv_omega
      · exact (next_chk_iff _).mp chk
      · exact ⟨Memory.write_wf _ _ _ canonical, Memory.write_bounded _ _ _ _ inside bounded⟩
    next => cases taken
  case h_5 chk =>
    obtain rfl := OpResult.done.inj taken
    exact ⟨fun _ => ⟨rfl, full chk⟩, nofun, nofun, canonical, bounded⟩

/-- Every rule keeps the decoder's registers and RXBUF in their form. -/
theorem Effect.rxWf {i : Instr} {s u : State} (effect : Effect i s u) (rx : s.RxWf) : u.RxWf := by
  cases effect with
  | takeByte b _ _ free taken => exact rxStep_rxWf s u b rx free taken
  | releaseFrame => exact ⟨nofun, rx.2⟩
  | drain _ v bs _ enough popped =>
    rw [popBytes_only s v _ bs popped]
    exact rx
  | push _ _ _ bs _ pushed =>
    rw [pushBytes_only s u bs pushed]
    exact rx
  | pop _ v b _ popped =>
    obtain ⟨-, -, rfl⟩ := popByte_ok s v b popped
    exact rx
  | packByte _ _ v acc _ pushed =>
    rw [pushByte_only _ v acc pushed]
    exact rx
  | closeRecordByte _ v _ _ _ pushed =>
    rw [pushByte_only s v _ pushed]
    exact rx
  | deliver =>
    rw [nowPh3_only]
    exact rx
  | _ => exact rx

/-! The encoder -/

theorem sumBytes_append (l m : List Byte) : sumBytes (l ++ m) = sumBytes l + sumBytes m := by
  induction m using List.reverseRecOn with
  | nil => simp [sumBytes]
  | append_singleton m b ih => rw [← List.append_assoc, sumBytes_concat, ih, sumBytes_concat,
      BitVec.add_assoc]

theorem sumBytes_cons (b : Byte) (l : List Byte) : sumBytes (b :: l) = b + sumBytes l := by
  rw [← List.singleton_append, sumBytes_append]
  simp [sumBytes]

/-- Bytes put on the stream add to its sum; a FLUSH does not (42_frame_tx.md R158). -/
theorem streamSum_bytes (l : List TxEvent) (bs : List Byte) :
    streamSum (l ++ bs.map TxEvent.byte) = streamSum l + sumBytes bs := by
  rw [streamSum, List.filterMap_append, sumBytes_append, List.filterMap_map]
  congr 2
  exact List.filterMap_some

theorem streamSum_flush (l : List TxEvent) : streamSum (l ++ [.flush]) = streamSum l := by
  rw [streamSum, List.filterMap_append]
  exact congrArg sumBytes (List.append_nil _)

/-- Every rule keeps what was sent summing to the open frame's partial sum, since each frame is closed by
its checksum byte. -/
theorem Effect.txWf {i : Instr} {s u : State} (effect : Effect i s u) (tx : s.TxWf) : u.TxWf := by
  obtain ⟨closedSum, sum⟩ := tx
  cases effect with
  | takeByte b _ _ _ taken =>
    rw [rxStep_only s u b taken]
    exact ⟨closedSum, sum⟩
  | openFrame _ _ header _ closed =>
    refine ⟨nofun, (streamSum_bytes _ _).trans ?_⟩
    rw [sum, (closedSum closed).1]
    exact BitVec.zero_add _
  | frameByte b _ opened =>
    refine ⟨fun shut => absurd opened (by simpa using shut), (streamSum_bytes _ _).trans ?_⟩
    rw [sum, sumBytes_cons]
    simp [sumBytes]
  | closeFrame _ _ _ paid =>
    refine ⟨fun _ => ⟨rfl, paid⟩, (streamSum_bytes _ _).trans ?_⟩
    rw [sum, sumBytes_cons]
    simpa [sumBytes] using (add_eq_zero_iff_checksum s.txsum _).mpr rfl
  | drain _ v bs closed _ popped =>
    rw [popBytes_only s v _ bs popped]
    refine ⟨closedSum, (streamSum_bytes _ _).trans ?_⟩
    have frame : sumBytes (dataMark :: s.datalen :: bs ++ [checksum (dataMark + s.datalen + sumBytes bs)])
        = 0 := by
      rw [sumBytes_concat_eq_zero_iff, sumBytes_cons, sumBytes_cons, BitVec.add_assoc]
    rw [frame, sum]
    exact BitVec.add_zero _
  | flushMark => exact ⟨closedSum, (streamSum_flush _).trans sum⟩
  | push _ _ _ bs _ pushed =>
    rw [pushBytes_only s u bs pushed]
    exact ⟨closedSum, sum⟩
  | pop _ v b _ popped =>
    obtain ⟨-, -, rfl⟩ := popByte_ok s v b popped
    exact ⟨closedSum, sum⟩
  | packByte _ _ v acc _ pushed =>
    rw [pushByte_only _ v acc pushed]
    exact ⟨closedSum, sum⟩
  | closeRecordByte _ v _ _ _ pushed =>
    rw [pushByte_only s v _ pushed]
    exact ⟨closedSum, sum⟩
  | deliver =>
    rw [nowPh3_only]
    exact ⟨closedSum, sum⟩
  | _ => exact ⟨closedSum, sum⟩

/-! The fault registers -/

theorem FaultCode.bits_range (c : FaultCode) : 1 ≤ c.bits.toNat ∧ c.bits.toNat ≤ 0x0B := by
  cases c <;> decide

theorem State.recordFault_faultWf (s : State) (c : FaultCode) (op : OpWord) (fault : s.FaultWf) :
    (s.recordFault c op).FaultWf := by
  cases faulted : s.faulted with
  | true => rwa [s.recordFault_later c op faulted]
  | false =>
    rw [s.recordFault_first c op faulted]
    exact ⟨nofun, fun _ => c.bits_range⟩

theorem SameFault.faultWf {s t : State} (same : SameFault s t) (fault : s.FaultWf) : t.FaultWf := by
  obtain ⟨faulted, code, op, port⟩ := same
  rw [State.FaultWf, faulted, code, op, port]
  exact fault

/-! Every step -/

/-- The parts of the invariant that a turn's fetched word plays no part in. -/
abbrev State.BlockWf (s : State) : Prop :=
  s.cfg.Legal ∧ s.QueueWf ∧ s.RecordWf ∧ s.TimeWf ∧ s.RxWf ∧ s.TxWf ∧ s.FaultWf

theorem wf_iff (s : State) : s.Wf ↔ s.BlockWf ∧ s.WindowWf := by
  constructor
  · rintro ⟨legal, queue, record, time, window, rest⟩
    exact ⟨⟨legal, queue, record, time, rest⟩, window⟩
  · rintro ⟨⟨legal, queue, record, time, rest⟩, window⟩
    exact ⟨legal, queue, record, time, window, rest⟩

theorem Effect.blockWf {i : Instr} {s u : State} (effect : Effect i s u) (block : s.BlockWf)
    (window : s.WindowWf) : u.BlockWf := by
  obtain ⟨legal, queue, record, time, rx, tx, fault⟩ := block
  refine ⟨?_, effect.queueWf legal queue, effect.recordWf legal queue record, effect.timeWf time window,
    effect.rxWf rx, effect.txWf tx, effect.sameFault.faultWf fault⟩
  rwa [effect.sameClients.1]

theorem State.recordFault_blockWf (s : State) (c : FaultCode) (op : OpWord) (block : s.BlockWf) :
    (s.recordFault c op).BlockWf := by
  obtain ⟨legal, queue, record, time, rx, tx, fault⟩ := block
  have fault' := s.recordFault_faultWf c op fault
  cases faulted : s.faulted with
  | true =>
    rw [s.recordFault_later c op faulted]
    exact ⟨legal, queue, record, time, rx, tx, fault⟩
  | false =>
    rw [s.recordFault_first c op faulted] at fault' ⊢
    exact ⟨legal, queue, record, time, rx, tx, fault'⟩

theorem ExecNext.blockWf {i : Instr} {s t : State} (ended : ExecNext i s t) (block : s.BlockWf)
    (window : s.WindowWf) : t.BlockWf := by
  cases ended with
  | completes u _ effect => exact effect.blockWf block window
  | samples =>
    obtain ⟨legal, queue, record, ⟨cnt, -, time⟩, rest⟩ := block
    exact ⟨legal, queue, record, ⟨cnt, cnt, time⟩, rest⟩
  | faults c => exact s.recordFault_blockWf c _ block
  | _ => exact block

theorem TurnNext.wf {s t : State} (ended : TurnNext s t) (wf : s.Wf) : t.Wf := by
  obtain ⟨block, window⟩ := (wf_iff s).mp wf
  rw [wf_iff]
  cases ended with
  | nothing => exact ⟨block, window⟩
  | operation w i _ word legal next =>
    have ended := exec_next i s t next
    exact ⟨ended.blockWf block window, ended.windowWf word legal window⟩
  | illegal w e word illegal =>
    refine ⟨s.recordFault_blockWf .illegalOp w block, windowWf_of_other window (by simp [SameWindow])
      (by simp) (fun inside own => ?_) fun q other => ?_⟩
    · obtain ⟨-, now, -⟩ := window inside
      rw [own, word] at now
      rw [Option.some.inj now, decode_encode _ rfl] at illegal
      cases illegal
    · simp [State.currentOp, PerPort.get_set_other _ _ _ _ other]

theorem PerformNext.wf {e : Event} {s t : State} (ended : PerformNext s e t) (wf : s.Wf) : t.Wf := by
  cases ended with
  | turn p _ turned => exact turned.wf wf
  | tick =>
    obtain ⟨⟨legal, queue, record, time, rest⟩, window⟩ := (wf_iff s).mp wf
    have time' := s.tick_timeWf time
    have window' := s.tick_windowWf window
    rw [s.tick_only] at time' window' ⊢
    exact ⟨legal, queue, record, time', window', rest⟩
  | setDin => exact wf
  | reset =>
    obtain ⟨legal, queue, record, time, window, rx, tx, fault⟩ := State.resetWith_wf s.cfg wf.1
    obtain ⟨-, ⟨-, -, qbuf⟩, -, -, -, ⟨-, -, -, rxbuf⟩, -⟩ := wf
    obtain ⟨head, tail, -⟩ := queue
    obtain ⟨held, short, full, -⟩ := rx
    exact ⟨legal, ⟨head, tail, qbuf⟩, record, time, fun inside => absurd rfl inside,
      ⟨held, short, full, rxbuf⟩, tx, fault⟩

/-- Settles O13: taking an event off the schedule touches no part of the invariant, and every event keeps
each part. -/
theorem stepKeepsWellFormed : Obligations.StepKeepsWellFormed := by
  intro s t wf next
  obtain ⟨-, rfl⟩ | ⟨e, rest, -, performed⟩ := step_next s t next
  · exact wf
  · exact performed.wf wf

end Sys2Proof.Machine

/-! PROOF. From a well-formed state no operation reaches a byte that its space lacks (20_memory.md R60), so no
step stops. -/

namespace Sys2Proof.Machine

theorem check_ne_stop {c : Option FaultCode} {r : OpResult} {f : Fault}
    (rest : c = none → r ≠ .stop f) : check c r ≠ .stop f := by
  cases c with
  | none => exact rest rfl
  | some c => exact nofun

theorem pushAcc_ne_stop (s : State) (f : Fault) (inside : s.head.toNat < s.cfg.n) :
    pushAcc s ≠ .stop f := by
  simp [pushAcc, pushByte_eq s _ inside]

theorem pushRule_ne_stop (s : State) (bs : List Byte) (f : Fault) (positive : 0 < s.cfg.n)
    (inside : s.head.toNat < s.cfg.n) : pushRule s bs ≠ .stop f := by
  obtain ⟨t, ok⟩ := pushBytes_completes s bs positive inside
  exact check_ne_stop fun _ => by simp [ok]

theorem rxStep_ne_stop (s : State) (b : Byte) (f : Fault) (rx : s.RxWf) : rxStep s b ≠ .stop f := by
  unfold rxStep
  split
  case h_4 payload =>
    have below := rx.2.1 payload
    rw [State.memWrite_eq s .rxbuf _ b (by change _ < 255; omega)]
    simp
  all_goals exact nofun

theorem rxDataRead_ne_stop (s : State) (i : Byte) (f : Fault) (below : i.toNat < s.rxlenr.toNat) :
    rxDataRead s i ≠ .stop f := by
  rw [rxDataRead, State.memRead_eq s .rxbuf _ (by change _ < 255; omega)]
  simp

theorem txDrainRule_ne_stop (s : State) (f : Fault) (positive : 0 < s.cfg.n)
    (inside : s.tail.toNat < s.cfg.n) : txDrainRule s ≠ .stop f := by
  obtain ⟨bs, t, ok, -⟩ := popBytes_completes s s.datalen.toNat positive inside
  unfold txDrainRule
  split
  · exact nofun
  · simp [ok]

theorem popRule_ne_stop (s : State) (f : Fault) (inside : s.tail.toNat < s.cfg.n) :
    popRule s ≠ .stop f := by
  simp [popRule, popByte_eq s inside]

theorem closeRecord_ne_stop (r : OpResult) (f : Fault) (rest : r ≠ .stop f) :
    closeRecord r ≠ .stop f := by
  cases r with
  | done t => exact nofun
  | _ => exact rest

theorem unlessInWindow_ne_stop (s t : State) (f : Fault) :
    unlessInWindow s (.done t) ≠ .stop f := by
  unfold unlessInWindow
  split <;> exact nofun

theorem nowNarrow_ne_stop (s : State) (f : Fault) : nowNarrow s ≠ .stop f := by
  unfold nowNarrow
  split
  · exact nofun
  · split <;> exact nofun
  · split <;> exact nofun

/-- Every index a rule uses is one its space has: HEAD and TAIL in the queue, RXK and a checked payload index
below 255 (R60). -/
theorem ruleOf_ne_stop (i : Instr) (s : State) (f : Fault) (block : s.BlockWf) :
    ruleOf i s ≠ .stop f := by
  obtain ⟨legal, ⟨head, tail, -⟩, -, -, rx, -, -⟩ := block
  have positive := capacity_pos legal
  cases i with
  | cNop | cStatus | cInfo | rxStat | txFlush | qSpace | qAvail => exact nofun
  | rxByte b =>
    rw [ruleOf]
    split
    · exact nofun
    · exact rxStep_ne_stop s b f rx
  | rxCmd | rxLen | rxAck | txCmd | txData | qClear | qSetDLen => exact check_ne_stop nofun
  | rxData ix =>
    exact check_ne_stop fun _ => check_ne_stop fun inRange =>
      rxDataRead_ne_stop s ix f ((rxRangeCheck_none_iff s ix).mp inRange)
  | txErr | txByte | txEnd => exact check_ne_stop fun _ => check_ne_stop nofun
  | txDrain => exact check_ne_stop fun _ => txDrainRule_ne_stop s f positive tail
  | qPush | qPush16 | qPush32 | qPush64 => exact pushRule_ne_stop s _ f positive head
  | qPop => exact check_ne_stop fun _ => popRule_ne_stop s f tail
  | qPushBit a =>
    refine check_ne_stop fun _ => ?_
    unfold pushBitRule
    split
    · exact check_ne_stop fun _ => pushAcc_ne_stop _ f head
    · exact nofun
  | qFlushBits =>
    refine check_ne_stop fun _ => ?_
    split
    · exact nofun
    · exact check_ne_stop fun _ => pushAcc_ne_stop s f head
  | qRBegin =>
    refine check_ne_stop fun _ => ?_
    split <;> exact nofun
  | qREnd =>
    refine check_ne_stop fun _ => closeRecord_ne_stop _ f ?_
    split
    · exact nofun
    · exact pushAcc_ne_stop s f head
  | tStart | tOvfSvc => exact unlessInWindow_ne_stop s _ f
  | tNow =>
    rw [ruleOf]
    split
    · exact nofun
    · exact nowNarrow_ne_stop s f

theorem exec_never_stops (i : Instr) (s : State) (block : s.BlockWf) : ∃ t, exec i s = .next t := by
  by_cases active : s.faulted = false ∨ actsAfterFault i s
  · rw [exec_eq_finish i s active]
    obtain next | ⟨f, stop, -⟩ := finish_stops i s (ruleOf i s)
    · exact next
    · exact absurd stop (ruleOf_ne_stop i s f block)
  · obtain ⟨faulted, inert⟩ := not_or.mp active
    exact ⟨_, exec_consumed i s (by simpa using faulted) inert⟩

theorem turn_never_stops (s : State) (block : s.BlockWf) : ∃ t, turn s = .next t := by
  cases word : s.currentOp s.grant with
  | none => exact ⟨s, turn_of_empty s word⟩
  | some w =>
    cases decoded : decode w with
    | ok i =>
      rw [turn_of_legal s w i word decoded]
      exact exec_never_stops i s block
    | error e => exact ⟨_, turn_of_illegal s w e word decoded⟩

/-- Settles O14: only a turn could stop, and its operation finds every byte it needs. -/
theorem stepNeverStops : Obligations.StepNeverStops := by
  intro s wf
  cases event : s.sched with
  | nil => exact ⟨s, step_of_nil s event⟩
  | cons e rest =>
    rw [step_of_cons s e rest event]
    cases e with
    | turn p => exact turn_never_stops { s with sched := rest, grant := p } ((wf_iff s).mp wf).1
    | tick | setDin | reset => exact ⟨_, rfl⟩

end Sys2Proof.Machine

/-! PROOF. The order of the queue (20_memory.md R71): an operation takes bytes from the front or puts bytes at
the end, and Q.CLEAR alone empties it. -/

namespace Sys2Proof.Machine

/-- From `s` to `t` the queue lost bytes at the front or gained bytes at the end, if it changed. -/
def KeepsOrder (s t : State) : Prop :=
  (∃ k, k ≤ (contents s).length ∧ contents t = (contents s).drop k) ∨
    ∃ bs, contents t = contents s ++ bs

theorem KeepsOrder.refl (s : State) : KeepsOrder s s := .inl ⟨0, Nat.zero_le _, rfl⟩

theorem KeepsOrder.pop {s t : State} {k : Nat} {bs : List Byte} (legal : s.cfg.Legal)
    (queue : s.QueueWf) (enough : k ≤ s.occ) (popped : popBytes s k = .ok (bs, t)) :
    KeepsOrder s t := by
  obtain ⟨-, -, -, left⟩ := popBytes_contents s t k bs legal queue enough popped
  exact .inl ⟨k, by rwa [contents_length], left⟩

theorem KeepsOrder.push {s t : State} {bs : List Byte} (legal : s.cfg.Legal) (queue : s.QueueWf)
    (room : bs.length ≤ s.space) (pushed : pushBytes s bs = .ok t) : KeepsOrder s t := by
  have whole := s.space_add_occ queue
  exact .inr ⟨bs, pushBytes_contents s t bs (capacity_pos legal) legal.2.1 queue (by omega) pushed⟩

/-- A record that lacks one byte has room for it. -/
theorem room_of_record {s : State} (record : s.RecordWf) (opened : s.recOpen = true)
    (exact : s.recCount.toNat + 1 = s.datalen.toNat) : 1 ≤ s.space := by
  obtain ⟨-, -, fit⟩ := record.2 opened
  omega

theorem Effect.keepsOrder {i : Instr} {s u : State} (effect : Effect i s u) (noClear : i ≠ .qClear)
    (legal : s.cfg.Legal) (queue : s.QueueWf) (record : s.RecordWf) : KeepsOrder s u := by
  cases effect with
  | takeByte b _ _ _ taken =>
    rw [rxStep_only s u b taken]
    exact .refl s
  | drain _ v bs _ enough popped => exact KeepsOrder.pop (t := v) legal queue enough popped
  | push _ _ _ bs fits pushed => exact .push legal queue fits.2 pushed
  | pop _ v b queued popped => exact KeepsOrder.pop (t := v) legal queue queued (popBytes_one s v b popped)
  | clear => exact absurd rfl noClear
  | packByte _ _ v acc fits pushed =>
    exact KeepsOrder.push (s := { s with bitacc := acc }) (t := v) (bs := [acc]) legal
      queue fits.2 (pushBytes_singleton _ v acc pushed)
  | closeRecordByte _ v opened _ exact' pushed =>
    exact KeepsOrder.push (t := v) (bs := [s.bitacc]) legal queue (room_of_record record opened exact')
      (pushBytes_singleton s v _ pushed)
  | deliver =>
    rw [nowPh3_only]
    exact .refl s
  | _ => exact .refl s

/-- Settles O52: a push puts its bytes at the end, a pop takes them from the front, and nothing else but Q.CLEAR
writes the queue's registers. -/
theorem theQueueIsFifo : Obligations.TheQueueIsFifo := by
  intro i s t wf noClear next
  obtain ⟨legal, queue, record, -⟩ := wf
  cases exec_next i s t next with
  | completes u _ effect => exact effect.keepsOrder noClear legal queue record
  | faults c _ _ running =>
    rw [State.recordFault_first s c _ running]
    exact KeepsOrder.refl s
  | _ => exact KeepsOrder.refl s

end Sys2Proof.Machine

/-! PROOF. Units CTL and RX, one operation at a time (40_control.md, 41_frame_rx.md): what each completes, holds
and faults with before a fault. Each is its rule evaluated. -/

namespace Sys2Proof.Machine

/-- Settles O20: C.NOP goes to `finish` with the state it has. -/
theorem cNopChangesNothing : Obligations.CNopChangesNothing := fun _ => rfl

/-! Holds -/

theorem unlessInWindow_outside (s : State) (r : OpResult) (outside : s.nowPhase = .idle) :
    unlessInWindow s r = r := if_pos outside

theorem unlessInWindow_inside (s : State) (r : OpResult) (inside : s.nowPhase ≠ .idle) :
    unlessInWindow s r = .hold := if_neg inside

theorem ruleOf_rxByte_held (s : State) (b : Byte) (held : s.rxValid = true) :
    ruleOf (.rxByte b) s = .hold := if_pos held

theorem ruleOf_rxByte_free (s : State) (b : Byte) (free : s.rxValid = false) :
    ruleOf (.rxByte b) s = rxStep s b := if_neg (by simp [free])

theorem ruleOf_tNow_chained (s : State) (chained : s.cfg.tsvar = .chained) :
    ruleOf .tNow s = .done (s.setDout (~~~ s.chraw)) := by rw [ruleOf, chained]

theorem ruleOf_tNow_narrow (s : State) (narrow : s.cfg.tsvar = .narrow) :
    ruleOf .tNow s = nowNarrow s := by rw [ruleOf, narrow]

/-- Another port's T.NOW holds in the window (44_timestamp.md R226). -/
theorem nowNarrow_foreign (s : State) (inside : s.nowPhase ≠ .idle) (foreign : s.nowPort ≠ s.grant) :
    nowNarrow s = .hold := by
  unfold nowNarrow
  split
  next idle => exact absurd idle inside
  all_goals exact if_neg foreign

/-- Settles O19: each of these rules answers `hold` there. -/
theorem heldOperationsChangeNothing : Obligations.HeldOperationsChangeNothing := by
  refine fun s running => ⟨fun held b => ?_, fun inside => ⟨?_, ?_⟩, fun inside narrow foreign => ?_⟩
  · exact holds_of_rule running (ruleOf_rxByte_held s b held)
  · exact holds_of_rule running (unlessInWindow_inside s _ inside)
  · exact holds_of_rule running (unlessInWindow_inside s _ inside)
  · exact holds_of_rule running
      ((ruleOf_tNow_narrow s narrow).trans (nowNarrow_foreign s inside foreign))

/-! The decoder's step in each of its states (R131) -/

theorem rxStep_hunt_other (s : State) (b : Byte) (hunt : s.rxst = .hunt) (other : b ≠ startMark) :
    rxStep s b = .done s := by
  simp only [rxStep, hunt, if_neg other]

theorem rxStep_hunt_start (s : State) (hunt : s.rxst = .hunt) :
    rxStep s startMark = .done { s with rxsum := startMark, rxst := .cmd } := by
  simp only [rxStep, hunt, if_true]

theorem rxStep_cmd (s : State) (b : Byte) (cmd : s.rxst = .cmd) :
    rxStep s b = .done { s with rxcmdr := b, rxsum := s.rxsum + b, rxst := .len } := by
  simp only [rxStep, cmd]

theorem rxStep_len (s : State) (b : Byte) (len : s.rxst = .len) :
    rxStep s b = .done { s with
      rxlenr := b
      rxsum := s.rxsum + b
      rxk := 0
      rxst := if b = 0 then .chk else .payload } := by
  simp only [rxStep, len]

theorem rxStep_payload (s : State) (b : Byte) (payload : s.rxst = .payload) (inside : s.rxk.toNat < 255) :
    rxStep s b = .done { s with
      rxbuf := s.rxbuf.write s.rxk.toNat b
      rxsum := s.rxsum + b
      rxst := if s.rxk + 1 = s.rxlenr then .chk else .payload
      rxk := s.rxk + 1 } := by
  simp only [rxStep, payload, State.memWrite_eq s .rxbuf s.rxk.toNat b inside]
  rfl

theorem rxStep_chk (s : State) (b : Byte) (chk : s.rxst = .chk) (free : s.rxValid = false) :
    rxStep s b = .done { s with
      rxsum := s.rxsum + b
      rxst := .hunt
      rxValid := decide (s.rxsum + b = 0) } := by
  simp only [rxStep, chk, free, Bool.or_false]

/-- Settles O23: the decoder's step in each of these states. -/
theorem rxByteOutsideThePayload : Obligations.RxByteOutsideThePayload := by
  intro s b running free
  have completes : ∀ u, rxStep s b = .done u → Completes (.rxByte b) s u := fun u taken =>
    completes_of_rule running ((ruleOf_rxByte_free s b free).trans taken)
  refine ⟨fun hunt other => completes _ (rxStep_hunt_other s b hunt other), fun hunt start => ?_,
    fun cmd => completes _ (rxStep_cmd s b cmd), fun len => completes _ (rxStep_len s b len),
    fun chk => completes _ (rxStep_chk s b chk free)⟩
  subst start
  exact completes _ (rxStep_hunt_start s hunt)

/-- Settles O24: RXK is an index of RXBUF, and the store reads back there alone. -/
theorem rxByteStoresThePayload : Obligations.RxByteStoresThePayload := by
  intro s b running free payload inside canonical
  exact ⟨_, completes_of_rule running
    ((ruleOf_rxByte_free s b free).trans (rxStep_payload s b payload inside)), rfl,
    fun a => Memory.read_write _ _ _ a canonical⟩

/-! The held frame -/

/-- The fields of the RX.STAT word (R132). -/
theorem State.rxStatWord_fields (s : State) :
    s.rxStatWord.getLsbD 0 = s.rxValid ∧ s.rxStatWord.extractLsb' 1 3 = s.rxst.bits ∧
    s.rxStatWord.extractLsb' 4 4 = 0#4 ∧ s.rxStatWord.extractLsb' 8 8 = s.rxk ∧
    s.rxStatWord.extractLsb' 16 48 = 0#48 := by
  rw [State.rxStatWord, BitVec.zeroExtend_eq_setWidth, BitVec.setWidth_eq_append (by decide),
    BitVec.cast_eq]
  simp (disch := omega) only [BitVec.extractLsb'_append_eq_of_add_le, BitVec.getLsbD_append,
    BitVec.extractLsb'_append_eq_of_le, Nat.reduceSub, Nat.reduceLT, if_true,
    BitVec.extractLsb'_eq_self, BitVec.getLsbD_ofBool, decide_true, Bool.true_and, true_and]
  exact ⟨if_pos (by decide), rfl⟩

theorem rxHeldCheck_held (s : State) (held : s.rxValid = true) : rxHeldCheck s = none := if_pos held

theorem rxHeldCheck_free (s : State) (free : s.rxValid = false) :
    rxHeldCheck s = some .rxSequence := if_neg (by simp [free])

/-- Settles O25: with a frame held every check passes. -/
theorem rxReadsAndReleasesTheHeldFrame : Obligations.RxReadsAndReleasesTheHeldFrame := by
  refine fun s running => ⟨⟨s.rxStatWord, completes_of_rule running rfl, s.rxStatWord_fields⟩,
    fun held => ?_⟩
  have passes : ∀ r, check (rxHeldCheck s) r = r := fun r => by rw [rxHeldCheck_held s held, check_none]
  refine ⟨completes_of_rule running (passes _), completes_of_rule running (passes _), fun i below => ?_,
    completes_of_rule running (passes _)⟩
  have read : rxDataRead s i = .done (s.setDout (zextByte (s.rxbuf.read i.toNat))) := by
    rw [rxDataRead, State.memRead_eq s .rxbuf _ (by change _ < 255; omega)]
    rfl
  refine completes_of_rule running ((passes _).trans ?_)
  rw [(rxRangeCheck_none_iff s i).mpr below, check_none, read]
  rfl

/-- Settles O26: the check for a held frame comes first, then that of the index. -/
theorem rxFaultConditions : Obligations.RxFaultConditions := by
  refine fun s running => ⟨fun free => ?_, fun held i beyond => ?_⟩
  · have raises : ∀ r, check (rxHeldCheck s) r = .raise .rxSequence := fun r => by
      rw [rxHeldCheck_free s free, check_some]
    exact ⟨faults_of_rule running (raises _), faults_of_rule running (raises _),
      faults_of_rule running (raises _), fun i => faults_of_rule running (raises _)⟩
  · have range : rxRangeCheck s i = some .rxRange := if_pos beyond
    refine faults_of_rule running ?_
    rw [ruleOf, rxHeldCheck_held s held, check_none, range, check_some]

end Sys2Proof.Machine

/-! PROOF. Whole frames at the decoder (41_frame_rx.md R137 to R139). `InFrame` says where the decoder stands
after the header and some payload bytes; the last byte decides by the sum alone. A flipped bit changes the
sum. -/

namespace Sys2Proof.Machine

/-! Runs of operations -/

theorem runOps_cons (s t : State) (i : Instr) (rest : List Instr) (next : exec i s = .next t) :
    runOps s (i :: rest) = runOps t rest := by
  simp only [runOps, next]

theorem runOps_append (s t : State) (first rest : List Instr) (run : runOps s first = some t) :
    runOps s (first ++ rest) = runOps t rest := by
  induction first generalizing s with
  | nil =>
    obtain rfl := Option.some.inj run
    rfl
  | cons i first ih =>
    rw [List.cons_append]
    cases next : exec i s with
    | next u =>
      rw [runOps_cons s u i _ next] at run ⊢
      exact ih u run
    | _ => simp [runOps, next] at run

theorem feed_append (s t : State) (first rest : List Byte) (run : feed s first = some t) :
    feed s (first ++ rest) = feed t rest := by
  rw [feed, List.map_append]
  exact runOps_append s t _ _ run

/-- A byte that the decoder takes is fed. -/
theorem feed_byte (s u : State) (b : Byte) (running : s.faulted = false) (free : s.rxValid = false)
    (taken : rxStep s b = .done u) : feed s [b] = some (u.complete s.grant) :=
  runOps_cons s _ (.rxByte b) []
    (completes_of_rule running ((ruleOf_rxByte_free s b free).trans taken))

/-! Inside a frame -/

/-- What a decoder that is fed a frame leaves alone from `s` to `t`: the outputs and the fault flag. -/
def Quiet (s t : State) : Prop := t.faulted = s.faulted ∧ t.txout = s.txout ∧ t.dout = s.dout

/-- From `s` the decoder has taken `'!'`, the command, the length and `m` payload bytes, and `t` is where
it stands (R131). -/
structure InFrame (s : State) (cmd : Byte) (data : List Byte) (m : Nat) (t : State) : Prop where
  free : t.rxValid = false
  state : t.rxst = if m = data.length then .chk else .payload
  command : t.rxcmdr = cmd
  length : t.rxlenr.toNat = data.length
  index : t.rxk.toNat = m
  sum : t.rxsum = sumBytes (startMark :: cmd :: BitVec.ofNat 8 data.length :: data.take m)
  canonical : t.rxbuf.wf = true
  stored : ∀ (j : Nat) (below : j < data.length), j < m → t.rxbuf.read j = data[j]
  quiet : Quiet s t

section Frames

variable (s : State) (cmd : Byte) (data : List Byte) (running : s.faulted = false)
  (hunt : s.rxst = .hunt) (free : s.rxValid = false)
include running hunt free

theorem feed_start : ∃ t, feed s [startMark] = some t ∧ t.rxst = .cmd ∧ t.rxValid = false ∧
    t.rxsum = startMark ∧ t.rxbuf = s.rxbuf ∧ Quiet s t :=
  ⟨_, feed_byte s _ _ running free (rxStep_hunt_start s hunt), rfl, free, rfl, rfl, rfl, rfl, rfl⟩

theorem feed_command : ∃ t, feed s [startMark, cmd] = some t ∧ t.rxst = .len ∧ t.rxValid = false ∧
    t.rxsum = startMark + cmd ∧ t.rxcmdr = cmd ∧ t.rxbuf = s.rxbuf ∧ Quiet s t := by
  obtain ⟨t, fed, state, free', sum, buf, faulted, txout, dout⟩ := feed_start s running hunt free
  refine ⟨_, (feed_append s t [startMark] [cmd] fed).trans
    (feed_byte t _ cmd (faulted.trans running) free' (rxStep_cmd t cmd state)), rfl, free', ?_, rfl, buf,
    faulted, txout, dout⟩
  rw [← sum]
  rfl

variable (canonical : s.rxbuf.wf = true) (short : data.length ≤ 255)
include canonical short

theorem feed_header : ∃ t, feed s [startMark, cmd, BitVec.ofNat 8 data.length] = some t ∧
    InFrame s cmd data 0 t := by
  obtain ⟨t, fed, state, free', sum, command, buf, faulted, txout, dout⟩ :=
    feed_command s cmd running hunt free
  have length : (BitVec.ofNat 8 data.length).toNat = data.length := by
    rw [BitVec.toNat_ofNat, Nat.mod_eq_of_lt (by omega)]
  have empty : BitVec.ofNat 8 data.length = 0 ↔ 0 = data.length := by
    rw [← BitVec.toNat_inj, length]
    exact eq_comm
  refine ⟨_, (feed_append s t [startMark, cmd] [_] fed).trans
    (feed_byte t _ _ (faulted.trans running) free' (rxStep_len t _ state)), ?_⟩
  exact {
    free := free'
    state := by simp only [State.complete_rxst, empty]
    command := command
    length := length
    index := rfl
    sum := by simp [sum, sumBytes]
    canonical := by simpa [buf] using canonical
    stored := nofun
    quiet := ⟨faulted, txout, dout⟩ }

omit hunt free canonical in
/-- The next payload byte is stored at its index and summed (R131). -/
theorem feed_payload (m : Nat) (more : m < data.length) (t : State) (inFrame : InFrame s cmd data m t) :
    ∃ u, feed t [data[m]] = some u ∧ InFrame s cmd data (m + 1) u := by
  obtain ⟨free, state, command, length, index, sum, canonical, stored, faulted, txout, dout⟩ := inFrame
  rw [if_neg more.ne] at state
  have next : (t.rxk + 1).toNat = m + 1 := by bv_omega
  have last : t.rxk + 1 = t.rxlenr ↔ m + 1 = data.length := by
    rw [← BitVec.toNat_inj, next, length]
  refine ⟨_, feed_byte t _ _ (faulted.trans running) free
    (rxStep_payload t _ state (by omega)), ?_⟩
  exact {
    free := free
    state := by simp only [State.complete_rxst, last]
    command := command
    length := length
    index := next
    sum := by
      simp only [State.complete_rxsum, sum, ← List.take_concat_get' _ _ more, ← List.cons_append,
        sumBytes_concat]
    canonical := Memory.write_wf _ _ _ canonical
    stored := fun j below upTo => by
      rw [State.complete_rxbuf, Memory.read_write _ _ _ _ canonical, index]
      split
      next here => simp [here]
      next other => exact stored j below (by omega)
    quiet := ⟨faulted, txout, dout⟩ }

/-- After the header and any number of payload bytes the decoder is in the frame. -/
theorem feed_inFrame (m : Nat) (upTo : m ≤ data.length) :
    ∃ t, feed s (startMark :: cmd :: BitVec.ofNat 8 data.length :: data.take m) = some t ∧
      InFrame s cmd data m t := by
  induction m with
  | zero => exact feed_header s cmd data running hunt free canonical short
  | succ m ih =>
    obtain ⟨t, fed, inFrame⟩ := ih (by omega)
    obtain ⟨u, fed', inFrame'⟩ := feed_payload s cmd data running short m (by omega) t inFrame
    refine ⟨u, ?_, inFrame'⟩
    rw [← List.take_concat_get' _ _ (by omega), ← List.cons_append, ← List.cons_append,
      ← List.cons_append, feed_append s t _ _ fed, fed']

/-- A frame of the declared length is held after its last byte exactly when its bytes sum to 0 (R137). -/
theorem feed_frame (chk : Byte) :
    ∃ t, feed s (startMark :: cmd :: BitVec.ofNat 8 data.length :: data ++ [chk]) = some t ∧
      t.rxValid = decide (sumBytes (startMark :: cmd :: BitVec.ofNat 8 data.length :: data ++ [chk]) = 0) ∧
      t.rxst = .hunt ∧ t.rxcmdr = cmd ∧ t.rxlenr.toNat = data.length ∧
      (∀ (j : Nat) (below : j < data.length), t.rxbuf.read j = data[j]) ∧ Quiet s t := by
  obtain ⟨t, fed, inFrame⟩ :=
    feed_inFrame s cmd data running hunt free canonical short data.length le_rfl
  obtain ⟨free', state, command, length, -, sum, -, stored, faulted, txout, dout⟩ := inFrame
  rw [List.take_length] at fed sum
  rw [if_pos rfl] at state
  refine ⟨_, (feed_append s t _ [chk] fed).trans
    (feed_byte t _ chk (faulted.trans running) free' (rxStep_chk t chk state free')), ?_, rfl, command,
    length, fun j below => stored j below below, faulted, txout, dout⟩
  rw [State.complete_rxValid, sumBytes_concat, sum]

/-- Before its last byte no frame is held (R137). -/
theorem feed_prefix_free (chk : Byte) (k : Nat) (before : k < data.length + 4) :
    ∃ u, feed s ((startMark :: cmd :: BitVec.ofNat 8 data.length :: data ++ [chk]).take k) = some u ∧
      u.rxValid = false := by
  match k with
  | 0 => exact ⟨s, rfl, free⟩
  | 1 =>
    obtain ⟨t, fed, -, free', -⟩ := feed_start s running hunt free
    exact ⟨t, fed, free'⟩
  | 2 =>
    obtain ⟨t, fed, -, free', -⟩ := feed_command s cmd running hunt free
    exact ⟨t, fed, free'⟩
  | m + 3 =>
    obtain ⟨t, fed, inFrame⟩ := feed_inFrame s cmd data running hunt free canonical short m (by omega)
    refine ⟨t, ?_, inFrame.free⟩
    rwa [List.cons_append, List.cons_append, List.cons_append, List.take_succ_cons, List.take_succ_cons,
      List.take_succ_cons, List.take_append_of_le_length (by omega)]

end Frames

/-- Settles O27: the closed frame sums to 0, so it is held after its last byte. -/
theorem rxAcceptsACorrectFrame : Obligations.RxAcceptsACorrectFrame := by
  intro s cmd data running hunt free canonical short
  refine ⟨fun k before =>
    feed_prefix_free s cmd data running hunt free canonical short _ k before, ?_⟩
  obtain ⟨t, fed, held, state, command, length, stored, faulted, txout, dout⟩ :=
    feed_frame s cmd data running hunt free canonical short
      (checksum (sumBytes (startMark :: cmd :: BitVec.ofNat 8 data.length :: data)))
  exact ⟨t, fed, held.trans (decide_eq_true (sumBytes_closeFrame _)), state, command, length, stored,
    txout, dout, faulted.trans running⟩

/-- Settles O28: a sum that is not 0 leaves nothing held. -/
theorem rxDropsAWrongChecksum : Obligations.RxDropsAWrongChecksum := by
  intro s cmd chk data running hunt free canonical short wrong
  obtain ⟨t, fed, held, state, -, -, -, faulted, txout, dout⟩ :=
    feed_frame s cmd data running hunt free canonical short chk
  exact ⟨t, fed, held.trans (decide_eq_false wrong), state, txout, dout, faulted.trans running⟩

/-! A flipped bit -/

/-- Changing one byte of a list changes its sum. -/
theorem sumBytes_modify_ne (bs : List Byte) (j : Nat) (f : Byte → Byte) (changes : ∀ b, f b ≠ b)
    (inside : j < bs.length) : sumBytes (bs.modify j f) ≠ sumBytes bs := by
  induction bs generalizing j with
  | nil => cases inside
  | cons b bs ih =>
    cases j with
    | zero =>
      rw [List.modify_zero_cons, sumBytes_cons, sumBytes_cons]
      exact fun same => changes b ((BitVec.add_left_inj _).mp same)
    | succ j =>
      rw [List.modify_succ_cons, sumBytes_cons, sumBytes_cons]
      exact fun same => ih j (by simpa using inside) ((BitVec.add_right_inj _).mp same)

theorem xor_bit_ne (b : Byte) (k : Nat) (bit : k < 8) : b ^^^ (1#8 <<< k) ≠ b := by
  intro same
  simpa [bit] using congrArg (fun x : Byte => x.getLsbD k) same

/-- A list of `n + 4` bytes with a length byte in its third place has the form of a frame. -/
theorem frame_form (bs : List Byte) (n : Nat) (start len : Byte) (size : bs.length = n + 4)
    (first : bs[0]? = some start) (third : bs[2]? = some len) :
    ∃ cmd data chk, bs = start :: cmd :: len :: data ++ [chk] ∧ data.length = n := by
  match bs with
  | a :: cmd :: c :: rest =>
    obtain rfl : a = start := Option.some.inj first
    obtain rfl : c = len := Option.some.inj third
    have nonempty : rest ≠ [] := by
      rintro rfl
      simp at size
    refine ⟨cmd, rest.dropLast, rest.getLast nonempty, ?_, ?_⟩
    · rw [List.cons_append, List.cons_append, List.cons_append, List.dropLast_concat_getLast]
    · simp at size ⊢
      omega

/-- Settles O29: the flip leaves the start and length bytes and the number of bytes, and changes the sum from
the 0 of a closed frame. -/
theorem rxDropsASingleBitFlip : Obligations.RxDropsASingleBitFlip := by
  intro s cmd data j k running hunt free canonical short inside notStart notLength bit
  have size : (commandFrame cmd data).length = data.length + 4 := by simp [commandFrame, closeFrame]
  have wrong : sumBytes (flipBit (commandFrame cmd data) j k) ≠ 0 := by
    rw [← sumBytes_closeFrame (startMark :: cmd :: BitVec.ofNat 8 data.length :: data)]
    exact sumBytes_modify_ne _ _ _ (fun b => xor_bit_ne b k bit) (by rwa [size])
  obtain ⟨cmd', data', chk, form, same⟩ := frame_form (flipBit (commandFrame cmd data) j k) data.length
    startMark (BitVec.ofNat 8 data.length) (by simp [flipBit, size])
    (by rw [flipBit, List.getElem?_modify_ne _ _ notStart]; rfl)
    (by rw [flipBit, List.getElem?_modify_ne _ _ notLength]; rfl)
  rw [form] at wrong ⊢
  rw [← same] at wrong short ⊢
  obtain ⟨t, fed, held, state, -, -, -, -, txout, -⟩ :=
    feed_frame s cmd' data' running hunt free canonical short chk
  exact ⟨t, fed, held.trans (decide_eq_false wrong), state, txout⟩

end Sys2Proof.Machine

/-! PROOF. Unit TX (42_frame_tx.md): each operation before a fault is its rule evaluated, and the sequences of
30_encoding.md R90 emit the frames of R93 to R96. -/

namespace Sys2Proof.Machine

theorem txClosedCheck_closed (s : State) (closed : s.txOpen = false) : txClosedCheck s = none :=
  (txClosedCheck_none_iff s).mpr closed

theorem txClosedCheck_opened (s : State) (opened : s.txOpen = true) :
    txClosedCheck s = some .txSequence := if_pos opened

theorem txOwnerCheck_own (s : State) (opened : s.txOpen = true) (own : s.txPort = s.grant) :
    txOwnerCheck s = none := (txOwnerCheck_none_iff s).mpr ⟨opened, own⟩

theorem txOwnerCheck_foreign (s : State) (foreign : s.txOpen = false ∨ s.txPort ≠ s.grant) :
    txOwnerCheck s = some .txSequence := if_pos foreign

/-! Headers, payload bytes and the end of a frame -/

section Rules

variable {s : State} (running : s.faulted = false)
include running

theorem completes_txCmd (c n : Byte) (closed : s.txOpen = false) :
    Completes (.txCmd c n) s (txOpenFrame s [startMark, c, n] n) :=
  completes_of_rule running (by rw [ruleOf, txClosedCheck_closed s closed, check_none])

theorem completes_txData (n : Byte) (closed : s.txOpen = false) :
    Completes (.txData n) s (txOpenFrame s [dataMark, n] n) :=
  completes_of_rule running (by rw [ruleOf, txClosedCheck_closed s closed, check_none])

theorem completes_txErr (code k : Byte) (closed : s.txOpen = false) (short : k ≠ 255) :
    Completes (.txErr code k) s (txOpenFrame s [startMark, errorMark, k + 1, code] k) := by
  have range : txErrRangeCheck k = none := if_neg short
  exact completes_of_rule running
    (by rw [ruleOf, txClosedCheck_closed s closed, check_none, range, check_none])

theorem completes_txByte (b : Byte) (opened : s.txOpen = true) (own : s.txPort = s.grant)
    (owed : s.txrem ≠ 0) :
    Completes (.txByte b) s { s.emit [b] with txsum := s.txsum + b, txrem := s.txrem - 1 } :=
  completes_of_rule running
    (by rw [ruleOf, txOwnerCheck_own s opened own, check_none, if_neg owed, check_none])

theorem completes_txEnd (opened : s.txOpen = true) (own : s.txPort = s.grant) (paid : s.txrem = 0) :
    Completes .txEnd s { s.emit [checksum s.txsum] with txOpen := false, txsum := 0 } :=
  completes_of_rule running
    (by rw [ruleOf, txOwnerCheck_own s opened own, check_none, if_pos paid, check_none])

end Rules

/-- Settles O30: with no frame open the three headers go out, and their sums are those of their bytes. -/
theorem txOpenersEmitTheHeader : Obligations.TxOpenersEmitTheHeader := by
  refine fun s c n running closed => ⟨?_, ?_, fun short => ?_⟩
  · simpa [txOpenFrame, State.emit, sumBytes, startMark] using completes_txCmd running c n closed
  · simpa [txOpenFrame, State.emit, sumBytes, dataMark] using completes_txData running n closed
  · simpa [txOpenFrame, State.emit, sumBytes, startMark, errorMark] using
      completes_txErr running c n closed short

/-- Settles O31: the byte that TX.END emits is the checksum byte of the sum so far. -/
theorem txPayloadAndEnd : Obligations.TxPayloadAndEnd := by
  refine fun s b running opened own => ⟨completes_txByte running b opened own, fun paid => ?_⟩
  exact ⟨checksum s.txsum, (add_eq_zero_iff_checksum _ _).mpr rfl, completes_txEnd running opened own paid⟩

/-- Settles O32: TX.FLUSH has no check. -/
theorem txFlushAppendsAMarker : Obligations.TxFlushAppendsAMarker :=
  fun _ running => completes_of_rule running rfl

/-- Settles O33: the checks in the order of R263. -/
theorem txFaultConditions : Obligations.TxFaultConditions := by
  intro s b n running
  have raises : ∀ {i c r}, ruleOf i s = check (some c) r → Faults i s c := faults_of_rule running
  refine ⟨fun opened => ?_, fun closed => ?_, fun foreign => ?_, fun opened own => ?_, fun unset => ?_,
    fun set opened => ?_⟩
  · have busy := txClosedCheck_opened s opened
    exact ⟨raises (by rw [ruleOf, busy]), raises (by rw [ruleOf, busy]), raises (by rw [ruleOf, busy])⟩
  · have long : txErrRangeCheck 255 = some .txRange := rfl
    exact raises (by rw [ruleOf, txClosedCheck_closed s closed, check_none, long])
  · have stranger := txOwnerCheck_foreign s foreign
    exact ⟨raises (by rw [ruleOf, stranger]), raises (by rw [ruleOf, stranger])⟩
  · have mine := txOwnerCheck_own s opened own
    exact ⟨fun paid => raises (by rw [ruleOf, mine, check_none, if_pos paid]),
      fun owed => raises (by rw [ruleOf, mine, check_none, if_neg owed])⟩
  · have check : txDrainCheck s = some .datalenUnset := if_pos unset
    exact raises (by rw [ruleOf, check])
  · have check : txDrainCheck s = some .txSequence := by
      rw [txDrainCheck, if_neg set, txClosedCheck_opened s opened]
    exact raises (by rw [ruleOf, check])

/-! TX.DRAIN -/

/-- `k` bytes popped move TAIL by `k` modulo N, and clear WROTE_LAST if there are any (43_queue.md R188). -/
theorem popBytes_registers (s t : State) (k : Nat) (bs : List Byte) (legal : s.cfg.Legal)
    (inside : s.tail.toNat < s.cfg.n) (popped : popBytes s k = .ok (bs, t)) :
    t = { s with
      tail := BitVec.ofNat 15 ((s.tail.toNat + k) % s.cfg.n)
      wroteLast := k == 0 && s.wroteLast } := by
  induction k generalizing s bs with
  | zero =>
    obtain ⟨-, rfl⟩ := Prod.mk.inj (Except.ok.inj popped)
    simp [Nat.mod_eq_of_lt inside]
  | succ k ih =>
    simp only [popBytes, popByte_eq s inside] at popped
    split at popped
    next bs' u rest =>
      obtain ⟨-, rfl⟩ := Prod.mk.inj (Except.ok.inj popped)
      have inside' : s.popped.tail.toNat < s.cfg.n := nextIndex_lt _ _ (capacity_pos legal)
      rw [ih s.popped bs' legal inside' rest]
      congr 1
      case e_tail =>
        simp only [State.popped_tail, State.popped_cfg]
        rw [nextIndex_toNat _ _ (capacity_pos legal) legal.2.1, Nat.mod_add_mod, Nat.add_assoc,
          Nat.add_comm 1]
      case e_wroteLast => simp
    next => cases popped

/-- Settles O34: the bytes popped are the queue's first DATALEN, and the frame around them is closed by their
checksum byte. -/
theorem txDrainSendsOneRecordOrNothing : Obligations.TxDrainSendsOneRecordOrNothing := by
  intro s wf running set closed
  obtain ⟨legal, queue, -⟩ := wf
  have passes : txDrainCheck s = none := (txDrainCheck_none_iff s).mpr ⟨set, closed⟩
  have nonzero : s.datalen.toNat ≠ 0 := fun zero => set (BitVec.eq_of_toNat_eq zero)
  refine ⟨fun enough => ?_, fun few => completes_of_rule running ?_⟩
  · obtain ⟨bs, u, popped, size⟩ :=
      popBytes_completes s s.datalen.toNat (capacity_pos legal) queue.2.1
    obtain ⟨-, -, taken, left⟩ := popBytes_contents s u _ bs legal queue enough popped
    have registers := popBytes_registers s u _ bs legal queue.2.1 popped
    have frame : dataFrame bs = dataMark :: s.datalen :: bs ++
        [checksum (dataMark + s.datalen + sumBytes bs)] := by
      rw [dataFrame, closeFrame, size, BitVec.ofNat_toNat, BitVec.setWidth_eq, sumBytes_cons, sumBytes_cons,
        BitVec.add_assoc]
    refine ⟨(u.emit (dataFrame bs)).setDout (zextBit true), completes_of_rule running ?_, ?_, left⟩
    · rw [ruleOf, passes, check_none, txDrainRule, if_neg (by omega)]
      simp only [popped, frame]
    · rw [beq_false_of_ne nonzero, Bool.false_and] at registers
      rw [← taken, registers]
      rfl
  · rw [ruleOf, passes, check_none, txDrainRule, if_pos few]
    rfl

/-! The sequences of R90 -/

/-- The payload bytes and the end of a frame emit those bytes and the checksum byte of the whole. -/
theorem runOps_payloadOps (s : State) (bs : List Byte) (running : s.faulted = false)
    (opened : s.txOpen = true) (own : s.txPort = s.grant) (owed : s.txrem.toNat = bs.length) :
    ∃ t, runOps s (payloadOps bs) = some t ∧
      t.txout = s.txout ++ (bs ++ [checksum (s.txsum + sumBytes bs)]).map TxEvent.byte ∧
      t.txOpen = false ∧ t.faulted = false := by
  induction bs generalizing s with
  | nil =>
    have paid : s.txrem = 0 := BitVec.eq_of_toNat_eq owed
    refine ⟨_, runOps_cons s _ .txEnd [] (completes_txEnd running opened own paid), ?_, rfl, running⟩
    simp [State.emit, sumBytes]
  | cons b bs ih =>
    rw [List.length_cons] at owed
    have more : s.txrem ≠ 0 := fun paid => by simp [paid] at owed
    obtain ⟨t, run, txout, closed, quiet⟩ := ih
      (({ s.emit [b] with txsum := s.txsum + b, txrem := s.txrem - 1 } : State).complete s.grant)
      running opened own (by simp only [State.complete_txrem]; bv_omega)
    refine ⟨t, (runOps_cons s _ (.txByte b) _ (completes_txByte running b opened own more)).trans run, ?_,
      closed, quiet⟩
    rw [txout, sumBytes_cons, ← BitVec.add_assoc]
    simp [State.emit]

/-- A header and then its payload and end emit the header's bytes, the payload and the byte that closes the
frame. -/
theorem runOps_frame (s : State) (header bs : List Byte) (opener : Instr) (rem : Byte)
    (running : s.faulted = false) (opens : Completes opener s (txOpenFrame s header rem))
    (owed : rem.toNat = bs.length) :
    ∃ t, runOps s (opener :: payloadOps bs) = some t ∧
      t.txout = s.txout ++ (closeFrame (header ++ bs)).map TxEvent.byte ∧
      t.txOpen = false ∧ t.faulted = false := by
  obtain ⟨t, run, txout, closed, quiet⟩ :=
    runOps_payloadOps ((txOpenFrame s header rem).complete s.grant) bs running rfl rfl owed
  refine ⟨t, (runOps_cons s _ opener _ opens).trans run, ?_, closed, quiet⟩
  rw [txout, closeFrame, sumBytes_append]
  simp [txOpenFrame, State.emit]

/-- Settles O36: each sequence is a header and its payload; that of an error frame ends in a FLUSH. -/
theorem txSequencesEmitWireFrames : Obligations.TxSequencesEmitWireFrames := by
  intro s c data is running closed
  have length : data.length ≤ 255 → (BitVec.ofNat 8 data.length).toNat = data.length := fun short => by
    rw [BitVec.toNat_ofNat, Nat.mod_eq_of_lt (by omega)]
  refine ⟨fun sequence => ?_, fun sequence => ?_, fun sequence => ?_⟩
  · obtain ⟨short, sequence⟩ := Option.ite_none_right_eq_some.mp sequence
    obtain rfl := Option.some.inj sequence
    exact runOps_frame s [startMark, c, _] data _ _ running (completes_txCmd running c _ closed)
      (length short)
  · obtain ⟨short, sequence⟩ := Option.ite_none_right_eq_some.mp sequence
    obtain rfl := Option.some.inj sequence
    exact runOps_frame s [dataMark, _] data _ _ running (completes_txData running _ closed) (length short)
  · obtain ⟨short, sequence⟩ := Option.ite_none_right_eq_some.mp sequence
    obtain rfl := Option.some.inj sequence
    have fits := length (by omega)
    obtain ⟨t, run, txout, shut, quiet⟩ := runOps_frame s _ data (.txErr c (BitVec.ofNat 8 data.length)) _
      running (completes_txErr running c _ closed (by bv_omega)) fits
    refine ⟨_, (runOps_append s t _ [.txFlush] run).trans
      (runOps_cons t _ .txFlush [] (completes_of_rule quiet rfl)), ?_, shut, quiet⟩
    have header : [startMark, errorMark, BitVec.ofNat 8 data.length + 1, c] ++ data =
        startMark :: errorMark :: BitVec.ofNat 8 (data.length + 1) :: c :: data := by
      rw [BitVec.ofNat_add]
      rfl
    rw [header] at txout
    exact congrArg (· ++ [TxEvent.flush]) txout

end Sys2Proof.Machine

/-! PROOF. Unit Q (43_queue.md): the checks of a push and of the record bracket, PushByte of one byte, and each
operation before a fault as its rule evaluated. -/

namespace Sys2Proof.Machine

/-! The checks, outcome by outcome (R182, R191 to R196) -/

theorem pushCheck_foreign (s : State) (k : Nat) (opened : s.recOpen = true) (foreign : s.grant ≠ s.recPort) :
    pushCheck s k = some .recSequence := if_pos ⟨opened, foreign⟩

theorem pushCheck_long (s : State) (k : Nat) (opened : s.recOpen = true) (own : s.grant = s.recPort)
    (long : s.datalen.toNat < s.recCount.toNat + k) : pushCheck s k = some .recLength := by
  rw [pushCheck, if_neg fun foreign => foreign.2 own, if_pos ⟨opened, long⟩]

theorem pushCheck_full (s : State) (k : Nat)
    (record : s.recOpen = true → s.grant = s.recPort ∧ s.recCount.toNat + k ≤ s.datalen.toNat)
    (full : s.space < k) : pushCheck s k = some .qOverflow := by
  rw [pushCheck, if_neg fun foreign => foreign.2 (record foreign.1).1,
    if_neg fun long => Nat.not_lt.mpr (record long.1).2 long.2, if_pos full]

theorem recClosedCheck_closed (s : State) (closed : s.recOpen = false) : recClosedCheck s = none :=
  (recClosedCheck_none_iff s).mpr closed

theorem recClosedCheck_opened (s : State) (opened : s.recOpen = true) :
    recClosedCheck s = some .recSequence := if_pos opened

theorem recForeignCheck_own (s : State) (own : s.recOpen = true → s.grant = s.recPort) :
    recForeignCheck s = none := (recForeignCheck_none_iff s).mpr own

theorem recForeignCheck_foreign (s : State) (opened : s.recOpen = true) (foreign : s.grant ≠ s.recPort) :
    recForeignCheck s = some .recSequence := if_pos ⟨opened, foreign⟩

/-! The rules of the bit packer -/

theorem ruleOf_qPushBit (s : State) (a : Byte) (own : s.recOpen = true → s.grant = s.recPort) :
    ruleOf (.qPushBit a) s = pushBitRule s (a.getLsbD 0) := by
  rw [ruleOf, recForeignCheck_own s own, check_none]
  rfl

theorem ruleOf_qFlushBits_none (s : State) (own : s.recOpen = true → s.grant = s.recPort)
    (none : s.bitcnt = 0) : ruleOf .qFlushBits s = .done s := by
  rw [ruleOf, recForeignCheck_own s own, check_none, if_pos none]

theorem ruleOf_qFlushBits_pending (s : State) (own : s.recOpen = true → s.grant = s.recPort)
    (pending : s.bitcnt ≠ 0) : ruleOf .qFlushBits s = check (pushCheck s 1) (pushAcc s) := by
  rw [ruleOf, recForeignCheck_own s own, check_none, if_neg pending]

theorem pushBitRule_bit (s : State) (d : Bool) (few : s.bitcnt ≠ 7) :
    pushBitRule s d = .done { s with
      bitacc := setBit s.bitacc s.bitcnt.toNat d
      bitcnt := s.bitcnt + 1 } := if_neg few

theorem pushBitRule_byte (s : State) (d : Bool) (eighth : s.bitcnt = 7) :
    pushBitRule s d = check (pushCheck s 1) (pushAcc { s with bitacc := setBit s.bitacc 7 d }) :=
  if_pos eighth

/-- What a push of the accumulator's byte leaves. -/
def pushedAcc (s : State) : State :=
  { (s.setByte .qbuf s.head.toNat s.bitacc).pushed with bitcnt := 0 }

theorem pushAcc_eq (s : State) (inside : s.head.toNat < s.cfg.n) : pushAcc s = .done (pushedAcc s) := by
  rw [pushAcc, pushByte_eq s s.bitacc inside, pushedAcc]

/-- `acc[k] <- d` bit by bit (R192). -/
theorem setBit_getLsbD (acc : Byte) (k : Nat) (d : Bool) (j : Nat) (inside : j < 8) :
    (setBit acc k d).getLsbD j = if j = k then d else acc.getLsbD j := by
  have one : (1#8 <<< k).getLsbD j = decide (j = k) := by
    simp only [BitVec.getLsbD_shiftLeft, inside, decide_true, Bool.true_and, BitVec.getLsbD_one]
    by_cases same : j = k <;> simp [same]
    omega
  have value : (if d then 1#8 <<< k else 0#8).getLsbD j = (d && decide (j = k)) := by
    cases d
    · exact BitVec.getLsbD_zero
    · exact one
  rw [setBit, BitVec.getLsbD_or, BitVec.getLsbD_and, BitVec.getLsbD_not, one, value]
  by_cases same : j = k <;> simp [same, inside]

/-! PushByte of one byte -/

section OneByte

variable {s : State} (wf : s.Wf)
include wf

/-- Where a byte is free, PushByte queues its byte last (R181). -/
theorem contents_pushByte (b : Byte) (fits : 1 ≤ s.space) :
    contents (s.setByte .qbuf s.head.toNat b).pushed = contents s ++ [b] := by
  obtain ⟨legal, queue, -⟩ := wf
  have whole := s.space_add_occ queue
  exact (contents_push s b (capacity_pos legal) legal.2.1 queue (by omega)).2.2

/-- PushByte stores at HEAD and nowhere else (R181). -/
theorem read_pushByte (b : Byte) (a : Nat) :
    (s.setByte .qbuf s.head.toNat b).pushed.qbuf.read a =
      if a = s.head.toNat then b else s.qbuf.read a := by
  obtain ⟨-, ⟨-, -, canonical, -⟩, -⟩ := wf
  exact Memory.read_write _ _ _ _ canonical

end OneByte

/-- Settles O39: the push of one byte. -/
theorem qPushAppendsAByte : Obligations.QPushAppendsAByte := by
  intro s b wf running fits
  have ⟨_, ⟨inside, _⟩, _⟩ := wf
  refine ⟨_, completes_of_rule running ?_, rfl, read_pushByte wf b, contents_pushByte wf b fits.2⟩
  rw [ruleOf, pushRule, (pushCheck_none_iff s [b].length).mpr fits, check_none,
    pushBytes_cons s b [] inside]
  rfl

/-- The four pushes of whole bytes follow one rule (R183 to R186). -/
theorem ruleOf_push (i : Instr) (k : Nat) (s : State) (push : IsPush i k) :
    ∃ bs, bs.length = k ∧ ruleOf i s = pushRule s bs := by
  obtain ⟨b, rfl, rfl⟩ | ⟨rfl, rfl⟩ | ⟨rfl, rfl⟩ | ⟨rfl, rfl⟩ := push
  · exact ⟨[b], rfl, rfl⟩
  all_goals exact ⟨_, leBytes_length _ _, rfl⟩

/-- Settles O41: PushCheck's three outcomes, and the check of Q.POP. -/
theorem pushAndPopFaultConditions : Obligations.PushAndPopFaultConditions := by
  intro s i k running push
  obtain ⟨bs, rfl, rule⟩ := ruleOf_push i k s push
  have raises : ∀ c, pushCheck s bs.length = some c → Faults i s c := fun c raised =>
    faults_of_rule running (by rw [rule, pushRule, raised, check_some])
  exact ⟨fun opened foreign => raises _ (pushCheck_foreign s _ opened foreign),
    fun opened own long => raises _ (pushCheck_long s _ opened own long),
    fun record full => raises _ (pushCheck_full s _ record full),
    fun empty => faults_of_rule running (by rw [ruleOf, if_pos empty, check_some])⟩

/-- Settles O42: PopByte's byte is the queue's first. -/
theorem qPopTakesTheOldestByte : Obligations.QPopTakesTheOldestByte := by
  intro s wf running queued
  obtain ⟨legal, queue, -⟩ := wf
  obtain ⟨-, -, first⟩ := contents_pop s (capacity_pos legal) legal.2.1 queue queued
  refine ⟨s.popped.setDout (zextByte (s.qbuf.read s.tail.toNat)), completes_of_rule running ?_, rfl, first⟩
  rw [ruleOf, if_neg queued.ne', check_none, popRule, popByte_eq s queue.2.1]

/-- Settles O43: SPACE is N less the length of the queue as a list, and fits the result. -/
theorem qSpaceAndAvailReportTheQueue : Obligations.QSpaceAndAvailReportTheQueue := by
  intro s wf running
  obtain ⟨legal, queue, -⟩ := wf
  have whole := s.space_add_occ queue
  have space : (BitVec.ofNat 64 s.space).toNat = s.space := by
    rw [BitVec.toNat_ofNat, Nat.mod_eq_of_lt (by omega)]
  have empty : contents s = [] ↔ s.occ = 0 := by rw [← List.length_eq_zero_iff, contents_length]
  have avail : zextBit (decide (0 < s.occ)) = if contents s = [] then 0 else 1 := by
    by_cases none : s.occ = 0
    · simp [empty.mpr none, none, zextBit]
    · simp [mt empty.mp none, Nat.pos_of_ne_zero none, zextBit]
  refine ⟨_, _, completes_of_rule running rfl, completes_of_rule running rfl, ?_, avail, fun same => ?_, ?_⟩
  · rw [space, contents_length, whole]
  · rw [space, State.space, State.occ, if_pos same]
    split <;> simp
  · rintro ⟨noByte, noSpace⟩
    rw [avail] at noByte
    have full := congrArg BitVec.toNat noSpace
    have positive := capacity_pos legal
    by_cases none : contents s = []
    · rw [empty] at none
      rw [space] at full
      change s.space = 0 at full
      omega
    · simp [none] at noByte

/-- Settles O44: with no record open both pass their check. -/
theorem qClearAndSetDLen : Obligations.QClearAndSetDLen := by
  intro s n running closed
  have passes : ∀ r, check (recClosedCheck s) r = r := fun r => by
    rw [recClosedCheck_closed s closed, check_none]
  exact ⟨⟨_, completes_of_rule running (passes _), rfl, rfl⟩, completes_of_rule running (passes _)⟩

/-- Settles O45: `setBit` bit by bit, and at the eighth bit the push of the accumulator. -/
theorem qPushBitPacksLsbFirst : Obligations.QPushBitPacksLsbFirst := by
  refine fun s a wf running => ⟨fun few own => ?_, fun eighth fits => ?_⟩
  · exact ⟨_, completes_of_rule running ((ruleOf_qPushBit s a own).trans (pushBitRule_bit s _ few)),
      setBit_getLsbD _ _ _⟩
  · have ⟨_, ⟨inside, _⟩, _⟩ := wf
    have wf' : ({ s with bitacc := setBit s.bitacc 7 (a.getLsbD 0) } : State).Wf := wf
    refine ⟨pushedAcc { s with bitacc := setBit s.bitacc 7 (a.getLsbD 0) }, completes_of_rule running ?_, rfl,
      setBit_getLsbD _ 7 _, read_pushByte wf' _, contents_pushByte wf' _ fits.2⟩
    rw [ruleOf_qPushBit s a fun opened => (fits.1 opened).1, pushBitRule_byte s _ eighth,
      (pushCheck_none_iff s 1).mpr fits, check_none]
    exact pushAcc_eq _ inside

/-- Settles O46: nothing is pushed with no bit pending, else the accumulator. -/
theorem qFlushBitsPushesAPartialByte : Obligations.QFlushBitsPushesAPartialByte := by
  refine fun s wf running => ⟨fun none own => completes_of_rule running (ruleOf_qFlushBits_none s own none),
    fun pending fits => ?_⟩
  have ⟨_, ⟨inside, _⟩, _⟩ := wf
  refine ⟨pushedAcc s, completes_of_rule running ?_, rfl, read_pushByte wf _,
    contents_pushByte wf _ fits.2⟩
  rw [ruleOf_qFlushBits_pending s (fun opened => (fits.1 opened).1) pending,
    (pushCheck_none_iff s 1).mpr fits, check_none, pushAcc_eq s inside]

/-- Settles O47: the three checks pass, and SPACE decides. -/
theorem qRBeginOpensOrDrops : Obligations.QRBeginOpensOrDrops := by
  intro s running set closed none
  have passes : rbeginCheck s = .none := (rbeginCheck_none_iff s).mpr ⟨set, closed, none⟩
  refine ⟨fun room => completes_of_rule running ?_, fun short => completes_of_rule running ?_⟩
  · rw [ruleOf, passes, check_none, if_neg (by omega)]
    rfl
  · rw [ruleOf, passes, check_none, if_pos short]
    rfl

/-- Settles O48: an exact record closes, after the push of a pending byte, for which the record keeps room. -/
theorem qREndClosesAnExactRecord : Obligations.QREndClosesAnExactRecord := by
  intro s wf running opened own
  have ⟨_, ⟨inside, _⟩, record, _⟩ := wf
  refine ⟨fun none full => completes_of_rule running ?_, fun pending lacksOne => ?_⟩
  · have passes : rendCheck s = .none :=
      (rendCheck_none_iff s).mpr ⟨opened, own, by rw [flushCount, if_pos none, Nat.add_zero, full]⟩
    rw [ruleOf, passes, check_none, if_pos none, closeRecord]
  · have passes : rendCheck s = .none :=
      (rendCheck_none_iff s).mpr ⟨opened, own, by rw [flushCount, if_neg pending, lacksOne]⟩
    refine ⟨{ pushedAcc s with recOpen := false, recCount := 0 }, completes_of_rule running ?_, rfl,
      read_pushByte wf _, contents_pushByte wf _ (room_of_record record opened lacksOne)⟩
    rw [ruleOf, passes, check_none, if_neg pending, pushAcc_eq s inside, closeRecord]

/-- Settles O49: the checks in the order of R263. -/
theorem recordAndBitFaultConditions : Obligations.RecordAndBitFaultConditions := by
  intro s a n running
  have raises : ∀ {i c r}, ruleOf i s = check (some c) r → Faults i s c := faults_of_rule running
  have pushBit : ∀ c, (s.recOpen = true → s.grant = s.recPort) → s.bitcnt = 7 →
      pushCheck s 1 = some c → Faults (.qPushBit a) s c := fun c own eighth raised =>
    raises (by rw [ruleOf_qPushBit s a own, pushBitRule_byte s _ eighth, raised])
  have flush : ∀ c, (s.recOpen = true → s.grant = s.recPort) → s.bitcnt ≠ 0 →
      pushCheck s 1 = some c → Faults .qFlushBits s c := fun c own pending raised =>
    raises (by rw [ruleOf_qFlushBits_pending s own pending, raised])
  refine ⟨fun opened => ?_, fun unset => ?_, fun set busy => ?_, fun foreign => ?_,
    fun opened own wrong => ?_, fun opened foreign => ?_, fun opened own long => ?_,
    fun record full => ?_⟩
  · have check := recClosedCheck_opened s opened
    exact ⟨raises (by rw [ruleOf, check]), raises (by rw [ruleOf, check])⟩
  · have check : rbeginCheck s = some .datalenUnset := if_pos unset
    exact raises (by rw [ruleOf, check])
  · have check : rbeginCheck s = some .recSequence := by
      rw [rbeginCheck, if_neg set]
      split
      · rfl
      next closed => exact if_pos (busy.resolve_left closed)
    exact raises (by rw [ruleOf, check])
  · have check : rendCheck s = some .recSequence := if_pos foreign
    exact raises (by rw [ruleOf, check])
  · have check : rendCheck s = some .recLength := by
      rw [rendCheck, if_neg (by simp [opened, own])]
      exact if_pos wrong
    exact raises (by rw [ruleOf, check])
  · have check := recForeignCheck_foreign s opened foreign
    exact ⟨raises (by rw [ruleOf, check]), raises (by rw [ruleOf, check])⟩
  · have check := pushCheck_long s 1 opened own long
    exact ⟨fun eighth => pushBit _ (fun _ => own) eighth check,
      fun pending => flush _ (fun _ => own) pending check⟩
  · have check := pushCheck_full s 1 record (by omega)
    have own := fun opened => (record opened).1
    exact ⟨fun eighth => pushBit _ own eighth check, fun pending => flush _ own pending check⟩

end Sys2Proof.Machine

/-! PROOF. Any number of digital bits (43_queue.md R199). `Packs` says which bits byte `q` of the packed list
has, and `Packed` where the machine stands after the bits so far: the full bytes are queued, the rest are in the
accumulator. Both go from one bit to the next. -/

namespace Sys2Proof.Machine

/-! The packed bytes -/

/-- Byte `q` of the bits `ds`, packed from the accumulator `acc`: bit `j` is the bit numbered 8q + j, or, where
there is none yet, what the accumulator held before. -/
def Packs (acc : Byte) (ds : List Bool) (q : Nat) (b : Byte) : Prop :=
  ∀ j, j < 8 → b.getLsbD j =
    if 8 * q + j < ds.length then ds.getD (8 * q + j) false
    else if q = 0 then acc.getLsbD j else ds.getD (8 * (q - 1) + j) false

theorem getD_concat_of_lt (ds : List Bool) (d : Bool) (n : Nat) (old : n < ds.length) :
    (ds ++ [d]).getD n false = ds.getD n false := by
  simp [List.getD_eq_getElem?_getD, List.getElem?_append_left old]

theorem getD_concat_length (ds : List Bool) (d : Bool) : (ds ++ [d]).getD ds.length false = d := by
  simp

/-- A byte that is full stays as it is. -/
theorem Packs.concat_full {acc : Byte} {ds : List Bool} {q : Nat} {b : Byte} (packs : Packs acc ds q b)
    (d : Bool) (full : 8 * q + 8 ≤ ds.length) : Packs acc (ds ++ [d]) q b := by
  intro j inside
  rw [packs j inside, if_pos (by omega), if_pos (by simp; omega), getD_concat_of_lt _ _ _ (by omega)]

/-- The next bit goes to the accumulator at its place (R192). -/
theorem Packs.concat_bit {acc : Byte} {ds : List Bool} {q : Nat} {b : Byte} (packs : Packs acc ds q b)
    (d : Bool) (k : Nat) (place : ds.length = 8 * q + k) (inside : k < 8) :
    Packs acc (ds ++ [d]) q (setBit b k d) := by
  intro j below
  rw [setBit_getLsbD b k d j below, List.length_append, List.length_singleton]
  obtain earlier | rfl | later := Nat.lt_trichotomy j k
  · rw [if_neg earlier.ne, packs j below, if_pos (by omega), if_pos (by omega),
      getD_concat_of_lt _ _ _ (by omega)]
  · rw [if_pos rfl, if_pos (by omega), ← place, getD_concat_length]
  · rw [if_neg later.ne', packs j below, if_neg (show ¬8 * q + j < ds.length by omega),
      if_neg (show ¬8 * q + j < ds.length + 1 by omega)]
    split
    · rfl
    · rw [getD_concat_of_lt _ _ _ (by omega)]

/-- A full byte is where the next one starts from: the accumulator keeps its value. -/
theorem Packs.next {acc : Byte} {ds : List Bool} {q : Nat} {b : Byte} (packs : Packs acc ds q b)
    (full : ds.length = 8 * q + 8) : Packs acc ds (q + 1) b := by
  intro j below
  rw [packs j below, if_pos (by omega), if_neg (by omega), if_neg (by omega), Nat.add_sub_cancel]

/-! The machine between bits -/

/-- From `s` the granted port has issued Q.PUSHBIT for each of the bits `ds`, and `t` is where the machine
stands. -/
structure Packed (s : State) (ds : List Bool) (t : State) : Prop where
  running : t.faulted = false
  cfg : t.cfg = s.cfg
  grant : t.grant = s.grant
  recOpen : t.recOpen = s.recOpen
  recPort : t.recPort = s.recPort
  datalen : t.datalen = s.datalen
  recCount : s.recOpen = true → t.recCount.toNat = s.recCount.toNat + ds.length / 8
  queue : t.QueueWf
  pending : t.bitcnt.toNat = ds.length % 8
  partialByte : Packs s.bitacc ds (ds.length / 8) t.bitacc
  fullBytes : ∃ bs, contents t = contents s ++ bs ∧ bs.length = ds.length / 8 ∧
    ∀ q (inside : q < bs.length), Packs s.bitacc ds q bs[q]

theorem PushFits.mono {s : State} {k m : Nat} (fits : PushFits s m) (fewer : k ≤ m) : PushFits s k := by
  obtain ⟨record, room⟩ := fits
  refine ⟨fun opened => ?_, by omega⟩
  obtain ⟨own, counted⟩ := record opened
  exact ⟨own, by omega⟩

section

variable {s t : State} {ds : List Bool} (queue : s.QueueWf)
  (packed : Packed s ds t)
include packed

theorem Packed.own (fits : PushFits s 0) (opened : t.recOpen = true) : t.grant = t.recPort := by
  rw [packed.grant, packed.recPort]
  exact (fits.1 (packed.recOpen.symm.trans opened)).1

include queue

/-- What is left of the room passes PushCheck for one byte more. -/
theorem Packed.fits_one (fits : PushFits s (ds.length / 8 + 1)) : PushFits t 1 := by
  obtain ⟨bs, list, size, -⟩ := packed.fullBytes
  have occ : t.occ = s.occ + ds.length / 8 := by
    simpa [contents_length, size] using congrArg List.length list
  have whole := s.space_add_occ queue
  have whole' := t.space_add_occ packed.queue
  rw [packed.cfg] at whole'
  obtain ⟨record, room⟩ := fits
  refine ⟨fun opened => ?_, by omega⟩
  have opened' := packed.recOpen.symm.trans opened
  obtain ⟨own, counted⟩ := record opened'
  rw [packed.grant, packed.recPort, packed.recCount opened', packed.datalen]
  exact ⟨own, by omega⟩

end

/-- With no bit yet the machine is as it was. -/
theorem Packed.start {s : State} (running : s.faulted = false) (queue : s.QueueWf) (none : s.bitcnt = 0) :
    Packed s [] s where
  running := running
  cfg := rfl
  grant := rfl
  recOpen := rfl
  recPort := rfl
  datalen := rfl
  recCount := fun _ => rfl
  queue := queue
  pending := by rw [none]; rfl
  partialByte := fun j _ => rfl
  fullBytes := ⟨[], (List.append_nil _).symm, rfl, nofun⟩

/-- A bit that does not fill its byte goes to the accumulator. -/
theorem Packed.bit {s t : State} {ds : List Bool} (packed : Packed s ds t) (d : Bool)
    (few : ds.length % 8 ≠ 7) :
    Packed s (ds ++ [d]) (({ t with
      bitacc := setBit t.bitacc t.bitcnt.toNat d
      bitcnt := t.bitcnt + 1 } : State).complete t.grant) := by
  have pending := packed.pending
  have count : (ds ++ [d]).length / 8 = ds.length / 8 := by simp; omega
  obtain ⟨bs, list, size, full⟩ := packed.fullBytes
  exact { packed with
    recCount := count ▸ packed.recCount
    pending := by
      change (t.bitcnt + 1).toNat = _
      rw [List.length_append, List.length_singleton]
      bv_omega
    partialByte := by
      rw [count]
      exact packed.partialByte.concat_bit d _ (by omega) (by omega)
    fullBytes := ⟨bs, list, count ▸ size, fun q inside => (full q inside).concat_full d (by omega)⟩ }

/-- The bit that fills its byte queues it. -/
theorem Packed.byte {s t : State} {ds : List Bool} (legal : s.cfg.Legal) (packed : Packed s ds t)
    (d : Bool) (eighth : ds.length % 8 = 7) (fits : PushFits t 1) :
    Packed s (ds ++ [d])
      ((pushedAcc { t with bitacc := setBit t.bitacc 7 d }).complete t.grant) := by
  have count : (ds ++ [d]).length / 8 = ds.length / 8 + 1 := by simp; omega
  have filled : Packs s.bitacc (ds ++ [d]) (ds.length / 8) (setBit t.bitacc 7 d) :=
    packed.partialByte.concat_bit d 7 (by omega) (by omega)
  obtain ⟨bs, list, size, full⟩ := packed.fullBytes
  have whole := t.space_add_occ packed.queue
  have legal' : t.cfg.Legal := packed.cfg ▸ legal
  have room : t.occ < t.cfg.n := by have := fits.2; omega
  obtain ⟨queue, -, list'⟩ := contents_push { t with bitacc := setBit t.bitacc 7 d } (setBit t.bitacc 7 d)
    (capacity_pos legal') legal'.2.1 packed.queue room
  exact { packed with
    recCount := fun opened => by
      have opened' := packed.recOpen.trans opened
      have before := packed.recCount opened
      have within := (fits.1 opened').2
      have := t.datalen.isLt
      change (if t.recOpen then t.recCount + 1 else t.recCount).toNat = _
      rw [count, if_pos opened', BitVec.toNat_add_of_lt (by change _ + 1 < 512; omega), before]
      rfl
    queue := queue
    pending := by
      change 0 = (ds ++ [d]).length % 8
      rw [List.length_append, List.length_singleton]
      omega
    partialByte := by
      rw [count]
      exact filled.next (by simp; omega)
    fullBytes := by
      refine ⟨bs ++ [setBit t.bitacc 7 d], ?_,
        by rw [count, List.length_append, List.length_singleton, size], fun q inside => ?_⟩
      · rw [← List.append_assoc, ← list]
        exact list'
      · by_cases old : q < bs.length
        · rw [List.getElem_append_left old]
          exact (full q old).concat_full d (by omega)
        · obtain rfl : q = bs.length := by
            rw [List.length_append, List.length_singleton] at inside
            omega
          rw [List.getElem_concat_length rfl, size]
          exact filled }

theorem bitOperand_ofBool (d : Bool) : ((BitVec.ofBool d).zeroExtend 8).getLsbD 0 = d := by
  cases d <;> rfl

/-- Q.PUSHBIT for each bit, where the full bytes fit. -/
theorem runOps_qDigital (s : State) (ds : List Bool) (legal : s.cfg.Legal) (queue : s.QueueWf)
    (running : s.faulted = false) (none : s.bitcnt = 0) (fits : PushFits s ((ds.length + 7) / 8)) :
    ∃ t, runOps s (qDigital ds) = some t ∧ Packed s ds t := by
  induction ds using List.reverseRecOn with
  | nil => exact ⟨s, rfl, .start running queue none⟩
  | append_singleton ds d ih =>
    rw [List.length_append, List.length_singleton] at fits
    obtain ⟨t, run, packed⟩ := ih (fits.mono (by omega))
    have run' := runOps_append s t _ [.qPushBit ((BitVec.ofBool d).zeroExtend 8)] run
    have rule := ruleOf_qPushBit t ((BitVec.ofBool d).zeroExtend 8) (packed.own (fits.mono (Nat.zero_le _)))
    rw [bitOperand_ofBool] at rule
    have pending := packed.pending
    rw [qDigital, List.map_append]
    by_cases eighth : ds.length % 8 = 7
    · have fits' := packed.fits_one queue (fits.mono (by omega))
      refine ⟨_, run'.trans (runOps_cons t _ _ [] (completes_of_rule packed.running (rule.trans ?_))),
        packed.byte legal d eighth fits'⟩
      rw [pushBitRule_byte t d (by bv_omega), (pushCheck_none_iff t 1).mpr fits', check_none]
      exact pushAcc_eq _ packed.queue.1
    · exact ⟨_, run'.trans (runOps_cons t _ _ [] (completes_of_rule packed.running
        (rule.trans (pushBitRule_bit t d (by bv_omega))))), packed.bit d eighth⟩

/-- Settles O50: after the bits the flush queues the partial byte, if there is one. -/
theorem digitalBitsPackIntoBytes : Obligations.DigitalBitsPackIntoBytes := by
  intro s ds wf running none fits
  obtain ⟨legal, queue, -⟩ := wf
  obtain ⟨t, run, packed⟩ := runOps_qDigital s ds legal queue running none fits
  have run' := runOps_append s t _ [.qFlushBits] run
  have own := packed.own (fits.mono (Nat.zero_le _))
  have pending := packed.pending
  obtain ⟨bs, list, size, full⟩ := packed.fullBytes
  by_cases whole : ds.length % 8 = 0
  · refine ⟨_, bs, run'.trans (runOps_cons t _ _ [] (completes_of_rule packed.running
      (ruleOf_qFlushBits_none t own (by bv_omega)))), packed.running,
      by simp only [State.complete_bitcnt]; bv_omega, list, by omega, fun q j inside => full q inside j⟩
  · have fits' := packed.fits_one queue (fits.mono (by omega))
    have room : t.occ < t.cfg.n := by
      have whole := t.space_add_occ packed.queue
      have := fits'.2
      omega
    have legal' : t.cfg.Legal := packed.cfg ▸ legal
    obtain ⟨-, -, list'⟩ := contents_push t t.bitacc (capacity_pos legal') legal'.2.1 packed.queue room
    refine ⟨(pushedAcc t).complete t.grant, bs ++ [t.bitacc],
      run'.trans (runOps_cons t _ _ [] (completes_of_rule packed.running ?_)), packed.running, rfl, ?_, ?_,
      fun q j inside => ?_⟩
    · rw [ruleOf_qFlushBits_pending t own (by bv_omega), (pushCheck_none_iff t 1).mpr fits', check_none,
        pushAcc_eq t packed.queue.1]
    · rw [← List.append_assoc, ← list]
      exact list'
    · simp
      omega
    · by_cases old : q < bs.length
      · rw [List.getElem_append_left old]
        exact full q old j
      · obtain rfl : q = bs.length := by
          rw [List.length_append, List.length_singleton] at inside
          omega
        rw [List.getElem_concat_length rfl, size]
        exact packed.partialByte j

end Sys2Proof.Machine

/-! PROOF. Unit T, one operation at a time, and the reference quantity E (44_timestamp.md R222 to R228). The
carry from OVF to TALLY leaves E as it is, and a tick that loses no overflow adds 1 to it. -/

namespace Sys2Proof.Machine

/-! Each operation -/

/-- Settles O53: outside the window the rule completes. -/
theorem tStartArmsTheCounter : Obligations.TStartArmsTheCounter :=
  fun s running outside => completes_of_rule running (unlessInWindow_outside s _ outside)

/-- Settles O56: OVF and TSVAR decide. -/
theorem tOvfSvcCountsOnce : Obligations.TOvfSvcCountsOnce := by
  refine fun s running outside => ⟨fun narrow pending => completes_of_rule running ?_,
    fun idle => completes_of_rule running ?_⟩
  · rw [ruleOf, unlessInWindow_outside s _ outside, if_pos ⟨narrow, pending⟩]
    rfl
  · rw [ruleOf, unlessInWindow_outside s _ outside, if_neg]
    rintro ⟨narrow, pending⟩
    obtain clear | chained := idle
    · simp [clear] at pending
    · simp [chained] at narrow

theorem nowNarrow_ph1 (s : State) (ph1 : s.nowPhase = .ph1) (own : s.nowPort = s.grant) :
    nowNarrow s = .more (nowPh2 s) := by
  simp only [nowNarrow, ph1, own, if_true]

theorem nowCounts_iff (s : State) :
    nowCounts s = true ↔ s.nowPre = true ∨ (s.ovf = true ∧ s.nowV.toNat < 2 ^ (s.cfg.w - 1)) := by
  simp [nowCounts, lowerHalf]

theorem nowPh3_counted (s : State) (counts : nowCounts s = true) :
    nowPh3 s = { countOverflow s with dout := (nowPh3 s).dout, nowPhase := .idle } := by
  simp only [nowPh3, counts, if_true]

theorem nowPh3_uncounted (s : State) (counts : nowCounts s = false) :
    nowPh3 s = { s with dout := (nowPh3 s).dout, nowPhase := .idle } := by
  simp only [nowPh3, counts, Bool.false_eq_true, if_false]

/-- PH1 of a T.NOW issued before a fault (R224). -/
theorem exec_tNow_ph1 (s : State) (narrow : s.cfg.tsvar = .narrow) (outside : s.nowPhase = .idle)
    (running : s.faulted = false) : exec .tNow s = .next ((nowPh1 s).wait s.grant) :=
  waits_of_rule running (by rw [ruleOf_tNow_narrow s narrow, nowNarrow, outside])

/-- PH2, faulted or not: it is no new issue (60_exceptions.md R264). -/
theorem exec_tNow_ph2 (s : State) (narrow : s.cfg.tsvar = .narrow) (ph1 : s.nowPhase = .ph1)
    (own : s.nowPort = s.grant) : exec .tNow s = .next ((nowPh2 s).wait s.grant) := by
  rw [exec_eq_finish .tNow s (.inr (.inr ⟨rfl, narrow, by simp [ph1], own⟩)), ruleOf_tNow_narrow s narrow,
    nowNarrow_ph1 s ph1 own]
  rfl

/-- Settles O54: the one step of CHAINED, and PH1, PH2 and PH3 of NARROW. -/
theorem tNowReadsTheTime : Obligations.TNowReadsTheTime := by
  refine fun s => ⟨fun chained running => completes_of_rule running (ruleOf_tNow_chained s chained),
    fun narrow outside running => exec_tNow_ph1 s narrow outside running,
    fun narrow ph1 own => exec_tNow_ph2 s narrow ph1 own,
    fun narrow ph2 own => ⟨fun counted => ?_, fun before now => ?_⟩⟩
  · have counts := (nowCounts_iff s).mpr counted
    have last := completes_tNow_of_ph2 s narrow ph2 own
    rw [nowPh3_counted s counts, nowPh3_dout_own s own, nowPh3_tally, if_pos counts] at last
    exact ⟨_, rfl, last⟩
  · have uncounted : nowCounts s = false := by
      rw [← Bool.not_eq_true, nowCounts_iff]
      simpa [before] using now
    have last := completes_tNow_of_ph2 s narrow ph2 own
    rw [nowPh3_uncounted s uncounted, nowPh3_dout_own s own, nowPh3_tally,
      if_neg (by simp [uncounted])] at last
    exact last

/-! E -/

theorem incMod_toNat (k : Nat) (x : Data) (width : k ≤ 64) : (incMod k x).toNat = (x.toNat + 1) % 2 ^ k := by
  rw [incMod, BitVec.toNat_ofNat, Nat.mod_eq_of_lt]
  exact (Nat.mod_lt _ (Nat.two_pow_pos k)).trans_le (Nat.pow_le_pow_right Nat.two_pos width)

theorem ovfCount_set {s : State} (pending : s.ovf = true) : ovfCount s = 1 := if_pos pending

theorem ovfCount_clear {s : State} (clear : s.ovf = false) : ovfCount s = 0 := if_neg (by simp [clear])

/-- A tally modulo 2^(64-W) counts the same E as one that does not wrap. -/
theorem tally_wrap (w x : Nat) (width : w ≤ 64) :
    x % 2 ^ (64 - w) * 2 ^ w % 2 ^ 64 = x * 2 ^ w % 2 ^ 64 := by
  have whole : 2 ^ 64 = 2 ^ (64 - w) * 2 ^ w := by rw [← Nat.pow_add, Nat.sub_add_cancel width]
  rw [whole, ← Nat.mul_mod_mul_right, Nat.mod_mod]

/-- Counting a pending overflow moves one unit from OVF to TALLY (R228). -/
theorem countOverflow_timeValue (s : State) (legal : s.cfg.Legal) (pending : s.ovf = true) :
    timeValue (countOverflow s) = timeValue s := by
  have width : s.cfg.w ≤ 64 := legal.2.2.2.trans (by decide)
  have tally : (countOverflow s).tally.toNat = (s.tally.toNat + 1) % 2 ^ (64 - s.cfg.w) :=
    incMod_toNat _ _ (Nat.sub_le _ _)
  rw [timeValue, timeValue, tally, ovfCount_set pending, ovfCount_clear rfl, Nat.add_zero, Nat.add_mod]
  change ((s.tally.toNat + 1) % 2 ^ (64 - s.cfg.w) * 2 ^ s.cfg.w % 2 ^ 64 + s.cnt.toNat % 2 ^ 64) % 2 ^ 64 = _
  rw [tally_wrap _ _ width, ← Nat.add_mod]

theorem SameTime.timeValue {s t : State} (same : SameTime s t) : timeValue t = timeValue s := by
  obtain ⟨cfg, tally, cnt, ovf, -⟩ := same
  rw [Machine.timeValue, Machine.timeValue, ovfCount, ovfCount, cfg, tally, cnt, ovf]

theorem nowPh3_timeValue (s : State) (legal : s.cfg.Legal) (window : s.WindowWf) (ph2 : s.nowPhase = .ph2) :
    timeValue (nowPh3 s) = timeValue s := by
  cases counts : nowCounts s with
  | true =>
    rw [nowPh3_counted s counts]
    exact countOverflow_timeValue s legal (pending_of_nowCounts s window ph2 counts)
  | false =>
    rw [nowPh3_uncounted s counts]
    rfl

theorem State.recordFault_sameTime (s : State) (c : FaultCode) (op : OpWord) :
    SameTime s (s.recordFault c op) := by simp [SameTime]

/-- No operation but T.START changes E. -/
theorem ExecNext.timeValue {i : Instr} {s t : State} (ended : ExecNext i s t) (noStart : i ≠ .tStart)
    (legal : s.cfg.Legal) (window : s.WindowWf) : timeValue t = timeValue s := by
  cases ended with
  | completes u _ effect =>
    obtain same | ⟨start, -⟩ | ⟨-, ph2, -, rfl⟩ | ⟨-, -, pending, rfl⟩ := effect.unitT
    · exact same.timeValue
    · exact absurd start noStart
    · exact nowPh3_timeValue s legal window ph2
    · exact countOverflow_timeValue s legal pending
  | faults c => exact (s.recordFault_sameTime c (encode i)).timeValue
  | _ => rfl

/-- A T.START that holds or is consumed changes nothing of the count. -/
theorem exec_tStart_inert (s t : State) (inert : s.faulted = true ∨ s.nowPhase ≠ .idle)
    (next : exec .tStart s = .next t) : timeValue t = timeValue s := by
  cases faulted : s.faulted with
  | true =>
    rw [exec_consumed .tStart s faulted (by simp [actsAfterFault, isControl])] at next
    obtain rfl := Host.Outcome.next.inj next
    rfl
  | false =>
    have inside : s.nowPhase ≠ .idle := inert.resolve_left (by simp [faulted])
    rw [holds_of_rule (i := .tStart) faulted (unlessInWindow_inside s _ inside)] at next
    obtain rfl := Host.Outcome.next.inj next
    rfl

/-- A turn whose word is not T.START's, or is one of a T.START that does not act, keeps E. -/
theorem TurnNext.timeValue {s t : State} (ended : TurnNext s t) (legal : s.cfg.Legal) (window : s.WindowWf)
    (noStart : s.currentOp s.grant = some (encode .tStart) → s.faulted = true ∨ s.nowPhase ≠ .idle) :
    timeValue t = timeValue s := by
  cases ended with
  | nothing => rfl
  | operation w i _ word decoded next =>
    by_cases start : i = .tStart
    · subst start
      refine exec_tStart_inert s t (noStart ?_) next
      rw [word, (encode_of_decode w _ decoded).1]
    · exact (exec_next i s t next).timeValue start legal window
  | illegal w => exact (s.recordFault_sameTime .illegalOp w).timeValue

/-! Ticks -/

/-- The part of E that TALLY does not count yet: OVF · 2^W + CNT. -/
def untallied (s : State) : Nat := ovfCount s * 2 ^ s.cfg.w + s.cnt.toNat

theorem timeValue_eq (s : State) :
    timeValue s = (s.tally.toNat * 2 ^ s.cfg.w + untallied s) % 2 ^ 64 := by
  rw [timeValue, untallied, Nat.add_mul, Nat.add_assoc]

/-- A tick that loses no overflow adds 1 (R228). -/
theorem tickNarrow_untallied (s : State) (legal : s.cfg.Legal) (time : s.TimeWf)
    (lossless : ¬(s.ovf = true ∧ s.cnt.toNat = 2 ^ s.cfg.w - 1)) :
    untallied (tickNarrow s) = untallied s + 1 := by
  have below := time.1
  unfold untallied
  by_cases last : s.cnt.toNat = 2 ^ s.cfg.w - 1
  · have clear : s.ovf = false := by
      rw [← Bool.not_eq_true]
      exact fun pending => lossless ⟨pending, last⟩
    rw [tickNarrow_of_last s last, ovfCount_set rfl, ovfCount_clear clear]
    change 1 * 2 ^ s.cfg.w + 0 = 0 * 2 ^ s.cfg.w + s.cnt.toNat + 1
    omega
  · rw [tickNarrow, if_neg last]
    change _ + (incMod s.cfg.w s.cnt).toNat = _
    rw [incMod_toNat _ _ (legal.2.2.2.trans (by decide)), Nat.mod_eq_of_lt (by omega)]
    rfl

theorem tickNarrow_only (s : State) : tickNarrow s = { s with
    cnt := (tickNarrow s).cnt
    ovf := (tickNarrow s).ovf
    ovfLost := (tickNarrow s).ovfLost } := by
  unfold tickNarrow
  split <;> rfl

theorem tickNarrow_timeValue (s : State) (legal : s.cfg.Legal) (time : s.TimeWf)
    (lossless : ¬(s.ovf = true ∧ s.cnt.toNat = 2 ^ s.cfg.w - 1)) :
    timeValue (tickNarrow s) = (timeValue s + 1) % 2 ^ 64 := by
  have cfg : (tickNarrow s).cfg = s.cfg := by rw [tickNarrow_only]
  have tally : (tickNarrow s).tally = s.tally := by rw [tickNarrow_only]
  rw [timeValue_eq, timeValue_eq, cfg, tally, tickNarrow_untallied s legal time lossless, ← Nat.add_assoc,
    Nat.mod_add_mod]

/-- Settles O58: a tick, a stopped tick, a T.START and every other event. -/
theorem timeValueCountsTicks : Obligations.TimeValueCountsTicks := by
  intro s t e rest wf narrow event next
  have ⟨legal, _, _, time, window, _⟩ := wf
  rw [step_of_cons s e rest event] at next
  refine ⟨?_, ?_, ?_, fun noTick noReset noStart => ?_⟩
  · rintro rfl run lossless
    obtain rfl := Host.Outcome.next.inj next
    rw [State.tick_narrow { s with sched := rest } run narrow]
    exact tickNarrow_timeValue { s with sched := rest } legal time lossless
  · rintro rfl stopped
    obtain rfl := Host.Outcome.next.inj next
    rw [State.tick_stopped { s with sched := rest } stopped]
    rfl
  · rintro p rfl word running outside
    rw [perform, turn_of_legal { s with sched := rest, grant := p } _ .tStart word (decode_encode _ rfl),
      tStartArmsTheCounter { s with sched := rest, grant := p } running outside] at next
    obtain rfl := Host.Outcome.next.inj next
    simp [timeValue, ovfCount]
  · cases perform_next e _ t next with
    | turn p _ ended => exact ended.timeValue legal window (noStart p rfl)
    | tick => exact absurd rfl noTick
    | setDin => rfl
    | reset => exact absurd rfl noReset

end Sys2Proof.Machine

/-! PROOF. The reconciliation theorem (44_timestamp.md R228). In the window of a port's T.NOW only ticks move the
counter: every other operation of unit T holds. So what TALLY does not count yet grows by at most the ticks, and
OVF was set at PH2 exactly when PH3 counts it. -/

namespace Sys2Proof.Machine

/-! One step in the window -/

/-- In the window another port's turn leaves unit T's registers and the port's place alone. -/
theorem TurnNext.foreign {s t : State} (ended : TurnNext s t) (inside : s.nowPhase ≠ .idle)
    (foreign : s.nowPort ≠ s.grant) : SameTime s t ∧
      t.opIndex.get s.nowPort = s.opIndex.get s.nowPort ∧ t.currentOp s.nowPort = s.currentOp s.nowPort := by
  have index : t.opIndex.get s.nowPort = s.opIndex.get s.nowPort ∧ t.ops = s.ops := by
    cases ended with
    | nothing => exact ⟨rfl, rfl⟩
    | operation w i _ _ _ next =>
      obtain ⟨ops, -, -, -, others, -⟩ := onlyTheGrantedPortAdvances i s t next
      exact ⟨(others _ foreign).1, ops⟩
    | illegal => simp [PerPort.get_set_other _ _ _ _ foreign]
  refine ⟨?_, index.1, by rw [State.currentOp, State.currentOp, index.1, index.2]⟩
  cases ended with
  | nothing => exact .refl s
  | operation w i _ _ _ next =>
    cases exec_next i s t next with
    | completes u _ effect =>
      obtain same | ⟨-, outside, -⟩ | ⟨-, -, own, -⟩ | ⟨-, outside, -⟩ := effect.unitT
      · exact same
      · exact absurd outside inside
      · exact absurd own foreign
      · exact absurd outside inside
    | begins _ _ _ outside => exact absurd outside inside
    | samples _ _ _ own => exact absurd own foreign
    | faults c => exact s.recordFault_sameTime c (encode i)
    | _ => exact SameTime.refl s
  | illegal w => exact s.recordFault_sameTime .illegalOp w

/-- A tick after which no overflow is lost adds at most 1. -/
theorem State.tick_untallied (s : State) (legal : s.cfg.Legal) (time : s.TimeWf)
    (narrow : s.cfg.tsvar = .narrow) (lossless : s.tick.ovfLost = false) :
    s.ovfLost = false ∧ untallied s ≤ untallied s.tick ∧ untallied s.tick ≤ untallied s + 1 := by
  cases run : s.run with
  | false =>
    rw [s.tick_stopped run] at lossless ⊢
    exact ⟨lossless, le_rfl, Nat.le_succ _⟩
  | true =>
    rw [s.tick_narrow run narrow] at lossless ⊢
    have kept : ¬(s.ovf = true ∧ s.cnt.toNat = 2 ^ s.cfg.w - 1) := fun ⟨pending, last⟩ => by
      simp [tickNarrow_of_last s last, pending] at lossless
    have before : s.ovfLost = false := by
      unfold tickNarrow at lossless
      split at lossless
      · simp_all
      · exact lossless
    have count := tickNarrow_untallied s legal time kept
    exact ⟨before, by omega, by omega⟩

/-! A run in the window -/

/-- Between steps of the T.NOW of port `p`, with `k` ticks from `s` to `t`: what the window holds still, and
how far the counter has gone if no overflow was lost. -/
structure InWindow (p : Port) (k : Nat) (s t : State) : Prop where
  wf : t.Wf
  cfg : t.cfg = s.cfg
  tally : t.tally = s.tally
  phase : t.nowPhase = s.nowPhase
  port : t.nowPort = s.nowPort
  pre : t.nowPre = s.nowPre
  sample : t.nowV = s.nowV
  index : t.opIndex.get p = s.opIndex.get p
  word : t.currentOp p = s.currentOp p
  counted : t.ovfLost = false →
    s.ovfLost = false ∧ untallied s ≤ untallied t ∧ untallied t ≤ untallied s + k

theorem InWindow.refl (p : Port) (s : State) (wf : s.Wf) : InWindow p 0 s s :=
  ⟨wf, rfl, rfl, rfl, rfl, rfl, rfl, rfl, rfl, fun lossless => ⟨lossless, le_rfl, le_rfl⟩⟩

theorem InWindow.trans {p : Port} {j k : Nat} {s t u : State} (first : InWindow p j s t)
    (rest : InWindow p k t u) : InWindow p (j + k) s u where
  wf := rest.wf
  cfg := rest.cfg.trans first.cfg
  tally := rest.tally.trans first.tally
  phase := rest.phase.trans first.phase
  port := rest.port.trans first.port
  pre := rest.pre.trans first.pre
  sample := rest.sample.trans first.sample
  index := rest.index.trans first.index
  word := rest.word.trans first.word
  counted := fun lossless => by
    obtain ⟨before, low, high⟩ := rest.counted lossless
    obtain ⟨before', low', high'⟩ := first.counted before
    exact ⟨before', by omega, by omega⟩

/-- What leaves unit T's registers and the port's place alone stays in the window. -/
theorem InWindow.of_sameTime {p : Port} {s t : State} (wf : t.Wf) (same : SameTime s t)
    (index : t.opIndex.get p = s.opIndex.get p) (word : t.currentOp p = s.currentOp p) :
    InWindow p 0 s t := by
  obtain ⟨cfg, tally, cnt, ovf, ovfLost, -, -, -, phase, port, pre, nowV⟩ := same
  have count : untallied t = untallied s := by rw [untallied, untallied, ovfCount, ovfCount, cfg, cnt, ovf]
  exact ⟨wf, cfg, tally, phase, port, pre, nowV, index, word, fun lossless =>
    ⟨ovfLost.symm.trans lossless, count.ge, count.le⟩⟩

/-- A step of the window that is no turn of the port and no reset. -/
theorem InWindow.step {p : Port} {s t : State} {e : Event} (wf : s.Wf) (inside : s.nowPhase ≠ .idle)
    (mine : s.nowPort = p) (event : s.sched.head? = some e) (noReset : e ≠ .reset) (notOwn : e ≠ .turn p)
    (next : step s = .next t) : InWindow p (if e = .tick then 1 else 0) s t := by
  have wf' := stepKeepsWellFormed s t wf next
  obtain ⟨rest, sched⟩ := List.head?_eq_some_iff.mp event
  rw [step_of_cons s e rest sched] at next
  cases perform_next e _ t next with
  | turn q _ ended =>
    have foreign : s.nowPort ≠ q := fun own => notOwn (by rw [← own, mine])
    obtain ⟨same, index, word⟩ := ended.foreign inside foreign
    subst mine
    exact .of_sameTime wf' same index word
  | setDin => exact .of_sameTime wf' (.refl s) rfl rfl
  | tick =>
    obtain ⟨legal, -, -, time, window, -⟩ := wf
    obtain ⟨narrow, -⟩ := window inside
    have counted := State.tick_untallied { s with sched := rest } legal time narrow
    have only := State.tick_only { s with sched := rest }
    refine ⟨wf', ?_, ?_, ?_, ?_, ?_, ?_, ?_, ?_, counted⟩ <;> rw [only] <;> rfl
  | reset => exact absurd rfl noReset

theorem WindowRun.inWindow {p : Port} {k : Nat} {s t : State} (run : WindowRun p k s t) (wf : s.Wf)
    (inside : s.nowPhase ≠ .idle) (mine : s.nowPort = p) : InWindow p k s t := by
  induction run with
  | refl s => exact .refl p s wf
  | tick _ event next ih =>
    have first := ih wf inside mine
    exact first.trans (.step first.wf (first.phase ▸ inside) (first.port.trans mine) event nofun nofun next)
  | other e _ event noTick noReset notOwn next ih =>
    have first := ih wf inside mine
    have rest := InWindow.step first.wf (first.phase ▸ inside) (first.port.trans mine) event noReset notOwn next
    rw [if_neg noTick] at rest
    exact first.trans rest

/-! The three steps -/

/-- The turn of a port at a T.NOW is a step of it. -/
theorem step_of_tNow (s t : State) (p : Port) (event : s.sched.head? = some (.turn p))
    (word : s.currentOp p = some (encode .tNow)) (next : step s = .next t) :
    ∃ rest, exec .tNow { s with sched := rest, grant := p } = .next t := by
  obtain ⟨rest, sched⟩ := List.head?_eq_some_iff.mp event
  refine ⟨rest, ?_⟩
  rw [← next]
  exact (stepRunsDecodedOperation s p rest _ .tNow sched word (decode_encode _ rfl)).symm

/-- The counts of the window, with `h` half the counter's range: an overflow pending at PH2 is one seen at PH1,
or one seen at PH3 whose sample is in the lower half (R228's four cases). -/
theorem counts_iff_pending (pre mid post : Bool) (c v d a b h : Nat) (bounds : c < 2 * h ∧ v < 2 * h ∧ d < 2 * h)
    (ticks : a + b ≤ h) (toMid : pre.toNat * (2 * h) + c ≤ mid.toNat * (2 * h) + v ∧
      mid.toNat * (2 * h) + v ≤ pre.toNat * (2 * h) + c + a)
    (toPost : mid.toNat * (2 * h) + v ≤ post.toNat * (2 * h) + d ∧
      post.toNat * (2 * h) + d ≤ mid.toNat * (2 * h) + v + b) :
    (pre = true ∨ (post = true ∧ v < h)) ↔ mid = true := by
  cases pre <;> cases mid <;> cases post <;> simp at toMid toPost ⊢ <;> omega

/-- With no overflow pending TALLY and CNT compose to E. -/
theorem composeNow_eq_timeValue (s : State) (legal : s.cfg.Legal) (time : s.TimeWf) (clear : s.ovf = false) :
    (composeNow s.cfg.w s.tally s.cnt).toNat = timeValue s := by
  have value := composeNow_toNat s.cfg.w s.tally s.cnt (legal.2.2.2.trans (by decide)) time.1 time.2.2.1
  have small := (composeNow s.cfg.w s.tally s.cnt).isLt
  rw [timeValue_eq, untallied, ovfCount_clear clear, Nat.zero_mul, Nat.zero_add, ← value,
    Nat.mod_eq_of_lt small]

/-- The tally with the overflow pending at the sample, if there is one, composes with the sample to E. -/
theorem composeNow_sample (s : State) (legal : s.cfg.Legal) (time : s.TimeWf) :
    (composeNow s.cfg.w (if s.ovf = true then incMod (64 - s.cfg.w) s.tally else s.tally) s.cnt).toNat =
      timeValue s := by
  split
  next pending =>
    rw [← countOverflow_timeValue s legal pending]
    exact composeNow_eq_timeValue (countOverflow s) legal (countOverflow_timeWf s time pending) rfl
  next clear => exact composeNow_eq_timeValue s legal time (by simpa using clear)

theorem ovfCount_eq (s : State) : ovfCount s = s.ovf.toNat := by
  unfold ovfCount
  cases s.ovf <;> rfl

section Result

variable {p : Port} {a b : Nat} {s1 s2 s4 : State} {rest : List Event}

/-- From PH1 at `s1` to PH2 at `s2` and on to PH3 at `s4`: PH3 counts an overflow exactly when one was pending
at PH2. -/
theorem nowCounts_iff_pending (first : InWindow p a s1 s2)
    (second : InWindow p b ((nowPh2 { s2 with sched := rest, grant := p }).wait p) s4) (wf : s1.Wf)
    (seen : s1.nowPre = s1.ovf) (ticks : a + b ≤ 2 ^ (s1.cfg.w - 1)) (lossless : s4.ovfLost = false) :
    nowCounts s4 = true ↔ s2.ovf = true := by
  have cfg2 : s2.cfg = s1.cfg := first.cfg
  have cfg4 : s4.cfg = s1.cfg := second.cfg.trans cfg2
  have pre : s4.nowPre = s1.ovf := second.pre.trans (first.pre.trans seen)
  have sample : s4.nowV = s2.cnt := second.sample
  have half : 2 ^ s1.cfg.w = 2 * 2 ^ (s1.cfg.w - 1) := by
    rw [← Nat.pow_succ', Nat.succ_eq_add_one, Nat.sub_add_cancel wf.1.2.2.1]
  have bounds : s1.cnt.toNat < 2 ^ s1.cfg.w ∧ s2.cnt.toNat < 2 ^ s1.cfg.w ∧ s4.cnt.toNat < 2 ^ s1.cfg.w :=
    ⟨wf.2.2.2.1.1, cfg2 ▸ first.wf.2.2.2.1.1, cfg4 ▸ second.wf.2.2.2.1.1⟩
  obtain ⟨losslessMid, toPost⟩ := second.counted lossless
  obtain ⟨-, toMid⟩ := first.counted losslessMid
  change untallied s2 ≤ untallied s4 ∧ untallied s4 ≤ untallied s2 + b at toPost
  simp only [untallied, ovfCount_eq, cfg2, cfg4, half] at toMid toPost bounds
  rw [nowCounts_iff, pre, sample, cfg4]
  exact counts_iff_pending _ _ _ _ _ _ a b _ bounds ticks toMid toPost

/-- If PH3 counts an overflow exactly when one was pending at the sample, its result is E at the sample. -/
theorem nowPh3_result (legal : s2.cfg.Legal) (time : s2.TimeWf) (cfg : s4.cfg = s2.cfg)
    (tally : s4.tally = s2.tally) (sample : s4.nowV = s2.cnt) (own : s4.nowPort = s4.grant)
    (counts : nowCounts s4 = true ↔ s2.ovf = true) :
    ((nowPh3 s4).dout.get s4.grant).toNat = timeValue s2 := by
  rw [nowPh3_dout_own s4 own, PerPort.get_set_same, nowPh3_tally, cfg, tally, sample]
  simp only [counts]
  exact composeNow_sample s2 legal time

end Result

/-- Settles O59: the three turns are PH1, PH2 and PH3, with a run in the window between each two. -/
theorem tNowResultIsTheTrueCount : Obligations.TNowResultIsTheTrueCount := by
  intro p a b s0 s1 s2 s3 s4 s5 wf narrow running outside event0 word step0 run1 event2 step2 run3 event4
    step4 ticks lossless
  have wf1 := stepKeepsWellFormed s0 s1 wf step0
  obtain ⟨rest0, now0⟩ := step_of_tNow s0 s1 p event0 word step0
  rw [exec_tNow_ph1 { s0 with sched := rest0, grant := p } narrow outside running] at now0
  obtain rfl := Host.Outcome.next.inj now0
  have first := run1.inWindow wf1 (by simp [nowPh1]) rfl
  have word2 := first.word.trans word
  have narrow2 := (congrArg Params.tsvar first.cfg).trans narrow
  have wf3 := stepKeepsWellFormed s2 s3 first.wf step2
  obtain ⟨rest2, now2⟩ := step_of_tNow s2 s3 p event2 word2 step2
  rw [exec_tNow_ph2 { s2 with sched := rest2, grant := p } narrow2 first.phase first.port] at now2
  obtain rfl := Host.Outcome.next.inj now2
  have second := run3.inWindow wf3 (by simp [nowPh2]) first.port
  have own := second.port.trans first.port
  obtain ⟨rest4, now4⟩ := step_of_tNow s4 s5 p event4 (second.word.trans word2) step4
  rw [completes_tNow_of_ph2 { s4 with sched := rest4, grant := p }
    ((congrArg Params.tsvar second.cfg).trans narrow2) second.phase own] at now4
  obtain rfl := Host.Outcome.next.inj now4
  have counts := nowCounts_iff_pending first second wf1 rfl ticks lossless
  obtain ⟨-, -, -, index, -⟩ := nowPh3_sameClients { s4 with sched := rest4, grant := p }
  refine ⟨?_, ?_, ?_⟩
  · exact nowPh3_result (s4 := { s4 with sched := rest4, grant := p }) first.wf.1 first.wf.2.2.2.1 second.cfg
      second.tally second.sample own counts
  · rw [State.complete_nowPhase, nowPh3_only]
  · rw [State.complete_opIndex, PerPort.get_set_same, index]
    exact congrArg (· + 1) (second.index.trans first.index)

end Sys2Proof.Machine

/-! PROOF. The interrupt lines (10_state.md R47; 60_exceptions.md R265, R266): IRQ_OVF follows OVF, IRQ_FAULT
follows FAULTED. -/

namespace Sys2Proof.Machine

theorem State.irqOvf_clear (s : State) (clear : s.ovf = false) : s.irqOvf = false := by
  simp [State.irqOvf, clear]

theorem State.irqOvf_chained (s : State) (chained : s.cfg.tsvar = .chained) : s.irqOvf = false := by
  simp [State.irqOvf, chained]

/-- A wrapping tick of a running counter raises IRQ_OVF, which RUN enables too (R35, R36). -/
theorem irqOvf_of_wrap (s : State) (time : s.TimeWf) (narrow : s.cfg.tsvar = .narrow) (run : s.run = true)
    (last : s.cnt.toNat = 2 ^ s.cfg.w - 1) : s.tick.irqOvf = true := by
  have enabled : s.ovfie = true := time.2.2.2.1.symm.trans run
  rw [s.tick_narrow run narrow, tickNarrow_of_last s last]
  simp [State.irqOvf, narrow, enabled]

/-- T.START and T.OVFSVC outside the window leave no request (R222, R227). -/
theorem irqOvf_of_service (s t : State) (running : s.faulted = false) (outside : s.nowPhase = .idle)
    (next : exec .tStart s = .next t ∨ exec .tOvfSvc s = .next t) : t.irqOvf = false := by
  obtain start | service := next
  · rw [tStartArmsTheCounter s running outside] at start
    obtain rfl := Host.Outcome.next.inj start
    exact State.irqOvf_clear _ rfl
  · obtain ⟨serves, idles⟩ := tOvfSvcCountsOnce s running outside
    by_cases pending : s.cfg.tsvar = .narrow ∧ s.ovf = true
    · rw [serves pending.1 pending.2] at service
      obtain rfl := Host.Outcome.next.inj service
      exact State.irqOvf_clear _ rfl
    · have quiet : s.ovf = false ∨ s.cfg.tsvar = .chained := by
        cases tsvar : s.cfg.tsvar with
        | narrow => exact .inl (by simpa [tsvar] using pending)
        | chained => exact .inr rfl
      rw [idles quiet] at service
      obtain rfl := Host.Outcome.next.inj service
      obtain clear | chained := quiet
      · exact State.irqOvf_clear _ clear
      · exact State.irqOvf_chained _ chained

/-- Settles O60, line by line and clause by clause. -/
theorem interruptLinesFollowTheFlags : Obligations.InterruptLinesFollowTheFlags := by
  intro s t wf
  have ⟨_, _, _, time, _⟩ := wf
  refine ⟨s.irqOvf_chained, fun narrow run last event next => ?_, irqOvf_of_service s t,
    fun narrow ph2 own counted next => ?_, fun i c _ faults next => ?_,
    fun p w e running event word illegal next => ?_, fun faulted noReset next => ?_, fun event next => ?_⟩
  · obtain ⟨rest, sched⟩ := List.head?_eq_some_iff.mp event
    rw [step_of_tick s rest sched] at next
    obtain rfl := Host.Outcome.next.inj next
    exact irqOvf_of_wrap { s with sched := rest } time narrow run last
  · rw [completes_tNow_of_ph2 s narrow ph2 own, nowPh3_counted s ((nowCounts_iff s).mpr counted)] at next
    obtain rfl := Host.Outcome.next.inj next
    exact State.irqOvf_clear _ rfl
  · rw [faults] at next
    obtain rfl := Host.Outcome.next.inj next
    rfl
  · obtain ⟨rest, sched⟩ := List.head?_eq_some_iff.mp event
    rw [(illegalWordRaisesIllegalOp s p rest w e sched word illegal).1 running] at next
    obtain rfl := Host.Outcome.next.inj next
    rfl
  · exact (faultRegistersLastUntilReset s t faulted noReset next).1
  · obtain ⟨rest, sched⟩ := List.head?_eq_some_iff.mp event
    obtain ⟨u, reset, -, ovf, fault, -⟩ := resetEventRestoresTheRegisters s rest sched
    rw [reset] at next
    obtain rfl := Host.Outcome.next.inj next
    exact ⟨ovf, fault⟩

end Sys2Proof.Machine
